-- ==== Sys2Proof/Word.lean ====
section
/-! DEFINITION. Word: the one word type of the block, the byte (R4 XLEN, R5). -/

namespace Sys2Proof

/-- A byte: every register, operand, result and code is one (R4, R21). -/
abbrev Byte := BitVec 8

end Sys2Proof
end

