-- ==== Sys2Proof/Config.lean ====
section
/-! DEFINITION. Config: the parameters of R4 that are numbers of the block as a whole, and the reset values. The block
leaves no value undefined (R11), so there is no free value here. The code numbers of R4 (ESC, PRIMARY_MAP, EXTENDED_MAP)
stand in Decode.lean. -/

namespace Sys2Proof

/-- `XLEN`: the width of every register, operand and result (R4). -/
def Config.xlen : Nat := 8

/-- `NREG`: the number of registers (R4). -/
def Config.nreg : Nat := 7

/-- `NFLAG`: the number of flags (R4). -/
def Config.nflag : Nat := 4

/-- `NCLASS`: the number of operation classifiers (R4). -/
def Config.nclass : Nat := 9

/-- The reset value of every register (R4, R12). -/
def Config.resetRegister : Byte := 0x00

/-- The reset value of every flag (R4, R12). -/
def Config.resetFlag : Bool := false

end Sys2Proof
end

