-- ==== Sys2Proof/Syntax.lean ====
section
/-! DEFINITION. Syntax: the names the spec closes (registers, code spaces, classifiers, operations), one constructor of
`Instr` per row of spec/opcode_table.json, the transaction that carries a code, and the diagnostic. -/

namespace Sys2Proof

/-- The seven registers of the Register File (R5). -/
inductive Reg where
  | a | b | c | d | e | h | l
deriving DecidableEq, Repr

/-- All registers, once each. -/
def Reg.all : List Reg := [.a, .b, .c, .d, .e, .h, .l]

/-- The two code spaces (R27); also the `entry` of a transaction (R15, R16): `execute` looks a code up in the Primary
space, `execute_extended` in the Extended one. -/
inductive CodeSpace where
  | primary | extended
deriving DecidableEq, Repr

/-- The one-bit value of the `entry` and `diag_space` ports (R16): 0 Primary, 1 Extended. -/
def CodeSpace.port : CodeSpace → Bool
  | .primary => false
  | .extended => true

/-- The Operation Classifier, a closed tag set that selects the flag rule and carries no state (R10). -/
inductive Classifier where
  | add | subtract | increment | decrement | and | or | xor | compare | shift
deriving DecidableEq, Repr

/-- All classifiers, once each. -/
def Classifier.all : List Classifier :=
  [.add, .subtract, .increment, .decrement, .and, .or, .xor, .compare, .shift]

/-- The eight accumulator operations, in the order of the `aop` field (R28). -/
inductive AluOp where
  | add | adc | sub | sbc | and | xor | or | cp
deriving DecidableEq, Repr

/-- The seven rotate and shift operations, in the order of the `sop` field (R28); there is no eighth (R78). -/
inductive ShiftOp where
  | rlc | rrc | rl | rr | sla | sra | srl
deriving DecidableEq, Repr

/-- The direction of the one-bit shift primitive (R70). -/
inductive Direction where
  | left | right
deriving DecidableEq, Repr

/-- An entry of PRIMARY_MAP (R79): what the Primary dispatcher finds under a recognized code. -/
inductive PrimaryOp where
  | accReg (op : AluOp) (r : Reg)
  | accImm (op : AluOp)
  | inc (r : Reg)
  | dec (r : Reg)
  | escape
deriving DecidableEq, Repr

/-- An entry of EXTENDED_MAP (R81). -/
inductive ExtendedOp where
  | shift (op : ShiftOp) (r : Reg)
deriving DecidableEq, Repr

/-- The instructions: one constructor per row of the opcode table. An immediate form carries its immediate byte (R32),
PREFIX_CB the Extended code it forwards (R80). -/
inductive Instr where
  /-- ADD_A_B: Primary 0x80, R51. -/
  | addAB
  /-- ADD_A_C: Primary 0x81, R51. -/
  | addAC
  /-- ADD_A_D: Primary 0x82, R51. -/
  | addAD
  /-- ADD_A_E: Primary 0x83, R51. -/
  | addAE
  /-- ADD_A_H: Primary 0x84, R51. -/
  | addAH
  /-- ADD_A_L: Primary 0x85, R51. -/
  | addAL
  /-- ADD_A_A: Primary 0x87, R51. -/
  | addAA
  /-- ADC_A_B: Primary 0x88, R53. -/
  | adcAB
  /-- ADC_A_C: Primary 0x89, R53. -/
  | adcAC
  /-- ADC_A_D: Primary 0x8A, R53. -/
  | adcAD
  /-- ADC_A_E: Primary 0x8B, R53. -/
  | adcAE
  /-- ADC_A_H: Primary 0x8C, R53. -/
  | adcAH
  /-- ADC_A_L: Primary 0x8D, R53. -/
  | adcAL
  /-- ADC_A_A: Primary 0x8F, R53. -/
  | adcAA
  /-- SUB_A_B: Primary 0x90, R55. -/
  | subAB
  /-- SUB_A_C: Primary 0x91, R55. -/
  | subAC
  /-- SUB_A_D: Primary 0x92, R55. -/
  | subAD
  /-- SUB_A_E: Primary 0x93, R55. -/
  | subAE
  /-- SUB_A_H: Primary 0x94, R55. -/
  | subAH
  /-- SUB_A_L: Primary 0x95, R55. -/
  | subAL
  /-- SUB_A_A: Primary 0x97, R55. -/
  | subAA
  /-- SBC_A_B: Primary 0x98, R57. -/
  | sbcAB
  /-- SBC_A_C: Primary 0x99, R57. -/
  | sbcAC
  /-- SBC_A_D: Primary 0x9A, R57. -/
  | sbcAD
  /-- SBC_A_E: Primary 0x9B, R57. -/
  | sbcAE
  /-- SBC_A_H: Primary 0x9C, R57. -/
  | sbcAH
  /-- SBC_A_L: Primary 0x9D, R57. -/
  | sbcAL
  /-- SBC_A_A: Primary 0x9F, R57. -/
  | sbcAA
  /-- AND_A_B: Primary 0xA0, R62. -/
  | andAB
  /-- AND_A_C: Primary 0xA1, R62. -/
  | andAC
  /-- AND_A_D: Primary 0xA2, R62. -/
  | andAD
  /-- AND_A_E: Primary 0xA3, R62. -/
  | andAE
  /-- AND_A_H: Primary 0xA4, R62. -/
  | andAH
  /-- AND_A_L: Primary 0xA5, R62. -/
  | andAL
  /-- AND_A_A: Primary 0xA7, R62. -/
  | andAA
  /-- XOR_A_B: Primary 0xA8, R64. -/
  | xorAB
  /-- XOR_A_C: Primary 0xA9, R64. -/
  | xorAC
  /-- XOR_A_D: Primary 0xAA, R64. -/
  | xorAD
  /-- XOR_A_E: Primary 0xAB, R64. -/
  | xorAE
  /-- XOR_A_H: Primary 0xAC, R64. -/
  | xorAH
  /-- XOR_A_L: Primary 0xAD, R64. -/
  | xorAL
  /-- XOR_A_A: Primary 0xAF, R64. -/
  | xorAA
  /-- OR_A_B: Primary 0xB0, R66. -/
  | orAB
  /-- OR_A_C: Primary 0xB1, R66. -/
  | orAC
  /-- OR_A_D: Primary 0xB2, R66. -/
  | orAD
  /-- OR_A_E: Primary 0xB3, R66. -/
  | orAE
  /-- OR_A_H: Primary 0xB4, R66. -/
  | orAH
  /-- OR_A_L: Primary 0xB5, R66. -/
  | orAL
  /-- OR_A_A: Primary 0xB7, R66. -/
  | orAA
  /-- CP_A_B: Primary 0xB8, R59. -/
  | cpAB
  /-- CP_A_C: Primary 0xB9, R59. -/
  | cpAC
  /-- CP_A_D: Primary 0xBA, R59. -/
  | cpAD
  /-- CP_A_E: Primary 0xBB, R59. -/
  | cpAE
  /-- CP_A_H: Primary 0xBC, R59. -/
  | cpAH
  /-- CP_A_L: Primary 0xBD, R59. -/
  | cpAL
  /-- CP_A_A: Primary 0xBF, R59. -/
  | cpAA
  /-- ADD_A_D8: Primary 0xC6, R52. -/
  | addAD8 (n : Byte)
  /-- ADC_A_D8: Primary 0xCE, R54. -/
  | adcAD8 (n : Byte)
  /-- SUB_A_D8: Primary 0xD6, R56. -/
  | subAD8 (n : Byte)
  /-- SBC_A_D8: Primary 0xDE, R58. -/
  | sbcAD8 (n : Byte)
  /-- AND_A_D8: Primary 0xE6, R63. -/
  | andAD8 (n : Byte)
  /-- XOR_A_D8: Primary 0xEE, R65. -/
  | xorAD8 (n : Byte)
  /-- OR_A_D8: Primary 0xF6, R67. -/
  | orAD8 (n : Byte)
  /-- CP_A_D8: Primary 0xFE, R60. -/
  | cpAD8 (n : Byte)
  /-- INC_B: Primary 0x04, R68. -/
  | incB
  /-- INC_C: Primary 0x0C, R68. -/
  | incC
  /-- INC_D: Primary 0x14, R68. -/
  | incD
  /-- INC_E: Primary 0x1C, R68. -/
  | incE
  /-- INC_H: Primary 0x24, R68. -/
  | incH
  /-- INC_L: Primary 0x2C, R68. -/
  | incL
  /-- INC_A: Primary 0x3C, R68. -/
  | incA
  /-- DEC_B: Primary 0x05, R69. -/
  | decB
  /-- DEC_C: Primary 0x0D, R69. -/
  | decC
  /-- DEC_D: Primary 0x15, R69. -/
  | decD
  /-- DEC_E: Primary 0x1D, R69. -/
  | decE
  /-- DEC_H: Primary 0x25, R69. -/
  | decH
  /-- DEC_L: Primary 0x2D, R69. -/
  | decL
  /-- DEC_A: Primary 0x3D, R69. -/
  | decA
  /-- PREFIX_CB: Primary 0xCB, R80. -/
  | prefixCb (ext : Byte)
  /-- RLC_B: Extended 0x00, R71. -/
  | rlcB
  /-- RLC_C: Extended 0x01, R71. -/
  | rlcC
  /-- RLC_D: Extended 0x02, R71. -/
  | rlcD
  /-- RLC_E: Extended 0x03, R71. -/
  | rlcE
  /-- RLC_H: Extended 0x04, R71. -/
  | rlcH
  /-- RLC_L: Extended 0x05, R71. -/
  | rlcL
  /-- RLC_A: Extended 0x07, R71. -/
  | rlcA
  /-- RRC_B: Extended 0x08, R72. -/
  | rrcB
  /-- RRC_C: Extended 0x09, R72. -/
  | rrcC
  /-- RRC_D: Extended 0x0A, R72. -/
  | rrcD
  /-- RRC_E: Extended 0x0B, R72. -/
  | rrcE
  /-- RRC_H: Extended 0x0C, R72. -/
  | rrcH
  /-- RRC_L: Extended 0x0D, R72. -/
  | rrcL
  /-- RRC_A: Extended 0x0F, R72. -/
  | rrcA
  /-- RL_B: Extended 0x10, R73. -/
  | rlB
  /-- RL_C: Extended 0x11, R73. -/
  | rlC
  /-- RL_D: Extended 0x12, R73. -/
  | rlD
  /-- RL_E: Extended 0x13, R73. -/
  | rlE
  /-- RL_H: Extended 0x14, R73. -/
  | rlH
  /-- RL_L: Extended 0x15, R73. -/
  | rlL
  /-- RL_A: Extended 0x17, R73. -/
  | rlA
  /-- RR_B: Extended 0x18, R74. -/
  | rrB
  /-- RR_C: Extended 0x19, R74. -/
  | rrC
  /-- RR_D: Extended 0x1A, R74. -/
  | rrD
  /-- RR_E: Extended 0x1B, R74. -/
  | rrE
  /-- RR_H: Extended 0x1C, R74. -/
  | rrH
  /-- RR_L: Extended 0x1D, R74. -/
  | rrL
  /-- RR_A: Extended 0x1F, R74. -/
  | rrA
  /-- SLA_B: Extended 0x20, R75. -/
  | slaB
  /-- SLA_C: Extended 0x21, R75. -/
  | slaC
  /-- SLA_D: Extended 0x22, R75. -/
  | slaD
  /-- SLA_E: Extended 0x23, R75. -/
  | slaE
  /-- SLA_H: Extended 0x24, R75. -/
  | slaH
  /-- SLA_L: Extended 0x25, R75. -/
  | slaL
  /-- SLA_A: Extended 0x27, R75. -/
  | slaA
  /-- SRA_B: Extended 0x28, R76. -/
  | sraB
  /-- SRA_C: Extended 0x29, R76. -/
  | sraC
  /-- SRA_D: Extended 0x2A, R76. -/
  | sraD
  /-- SRA_E: Extended 0x2B, R76. -/
  | sraE
  /-- SRA_H: Extended 0x2C, R76. -/
  | sraH
  /-- SRA_L: Extended 0x2D, R76. -/
  | sraL
  /-- SRA_A: Extended 0x2F, R76. -/
  | sraA
  /-- SRL_B: Extended 0x38, R77. -/
  | srlB
  /-- SRL_C: Extended 0x39, R77. -/
  | srlC
  /-- SRL_D: Extended 0x3A, R77. -/
  | srlD
  /-- SRL_E: Extended 0x3B, R77. -/
  | srlE
  /-- SRL_H: Extended 0x3C, R77. -/
  | srlH
  /-- SRL_L: Extended 0x3D, R77. -/
  | srlL
  /-- SRL_A: Extended 0x3F, R77. -/
  | srlA
deriving DecidableEq, Repr

/-- What the collaborator presents in one transaction (R15, R16, R27): the entry point and its two bytes. -/
structure Transaction where
  entry : CodeSpace
  opcode : Byte
  operand : Byte
deriving DecidableEq, Repr

/-- The diagnostic (R17, R85): the one kind of event, with the table in which the lookup failed and the code byte looked
up there. DESIGN CHOICE (the spec's decision D8; log 5): the source fixes only that one is raised. -/
inductive Diag where
  | unrecognizedOpcode (space : CodeSpace) (code : Byte)
deriving DecidableEq, Repr

end Sys2Proof
end

