-- ==== Sys2Proof/Machine/State.lean ====
section
/-! DEFINITION. State: the Register File, the Flag Set (R5, R8, R14: nothing else is state of the block), and beside them
the ports through which the collaborator drives the block and reads the diagnostic (R16). There is no memory, no pc and no
control register (R13, R14, R19; log 14). -/

namespace Sys2Proof.Machine

/-- The Register File: seven independent bytes, no aliasing (R5). -/
structure RegFile where
  a : Byte
  b : Byte
  c : Byte
  d : Byte
  e : Byte
  h : Byte
  l : Byte
deriving DecidableEq, Repr

/-- The Flag Set: four independent booleans with no byte layout (R8; decision D11). -/
structure FlagSet where
  zero : Bool
  subtract : Bool
  halfCarry : Bool
  carry : Bool
deriving DecidableEq, Repr

/-- The values of the input ports during one step (R16): `reset`, `start`, and `entry`, `opcode`, `operand` as one
transaction. -/
structure Ports where
  reset : Bool
  start : Bool
  transaction : Transaction
deriving DecidableEq, Repr

/-- The state of the block and, beside it, the ports (R14, R16). -/
structure State where
  /-- The Register File (R5). -/
  regs : RegFile
  /-- The Flag Set (R8). -/
  flags : FlagSet
  /-- The input-port values the collaborator will present, one entry a step, oldest first. The MODEL's field, not the
  block's (DESIGN CHOICE, log 6). -/
  inputs : List Ports
  /-- The diagnostic output of the transaction just performed, none when `diag_valid` is 0 (R16, R17). An output, not
  state of the block: written anew by every step and read by none (log 5). -/
  diag : Option Diag
deriving DecidableEq, Repr

/-- Why a step could stop with a fault: never. No constructor raises one, in any meaning: the one error kind of the
block is a no-op with a diagnostic (R85, R86, R87; log 13). Safe: there is nothing to stop at. -/
inductive Fault where
deriving DecidableEq, Repr

/-- Why a step could be refused. -/
inductive Refusal where
  /-- Raised by an arm of `exec` that has no meaning yet; no arm is left that raises it. Safe: a stop, not a claim. -/
  | notModelled (mnemonic : String)
deriving DecidableEq, Repr

/-- The outcome of a transaction in this machine. -/
abbrev Result := Host.Outcome State Fault Refusal

/-- The Register File after reset: every register 0x00 (R12). -/
def RegFile.reset : RegFile :=
  ⟨Config.resetRegister, Config.resetRegister, Config.resetRegister, Config.resetRegister, Config.resetRegister,
    Config.resetRegister, Config.resetRegister⟩

/-- The Flag Set after reset: every flag false (R12), Zero among them although the registers are zero. -/
def FlagSet.reset : FlagSet :=
  ⟨Config.resetFlag, Config.resetFlag, Config.resetFlag, Config.resetFlag⟩

/-- The machine right after reset (R12, R93): no diagnostic presented, nothing yet to be presented to it (log 6). -/
def State.reset : State :=
  { regs := .reset, flags := .reset, inputs := [], diag := none }

end Sys2Proof.Machine
end

