-- ==== Sys2Proof/Machine/Flags.lean ====
section
/-! DEFINITION. Flags: the Flag Set's update, one row per Operation Classifier (40_flag_update.md, R38 to R45). -/

namespace Sys2Proof.Machine

/-- `x[3:0]`, the low nibble. -/
def lowNibble (x : Byte) : Nat := x.toNat % 16

/-- `FlagApply(classifier, x, y, result, overflow)` (R38): the new flags, from the old ones where a row leaves a flag
unchanged (Carry under Increment and Decrement, R41, R42). -/
def flagApply (cls : Classifier) (x y result : Byte) (overflow : Bool) (old : FlagSet) : FlagSet :=
  let zero := result == 0#8
  match cls with
  | .add => ⟨zero, false, decide (lowNibble x + lowNibble y > 15), overflow⟩
  | .subtract => ⟨zero, true, decide (lowNibble x < lowNibble y), overflow⟩
  | .compare => ⟨zero, true, decide (lowNibble x < lowNibble y), overflow⟩
  | .increment => ⟨zero, false, decide (lowNibble x + 1 > 15), old.carry⟩
  | .decrement => ⟨zero, false, decide (lowNibble x < 1), old.carry⟩
  | .and => ⟨zero, false, true, false⟩
  | .or => ⟨zero, false, false, false⟩
  | .xor => ⟨zero, false, false, false⟩
  | .shift => ⟨zero, false, false, overflow⟩

end Sys2Proof.Machine
end

