-- ==== Sys2Proof/Machine/Ops.lean ====
section
/-! DEFINITION. Ops: the named operations over registers, the end of a transaction, the one exceptional event, and the
effect of the ports. There is no memory operation (R19) and no return from an exception (R90). -/

namespace Sys2Proof.Machine

/-- `read(name)` of the Register File (R6). -/
def RegFile.read (f : RegFile) (r : Reg) : Byte :=
  match r with
  | .a => f.a
  | .b => f.b
  | .c => f.c
  | .d => f.d
  | .e => f.e
  | .h => f.h
  | .l => f.l

/-- `write(name, value)` of the Register File: stores, and nothing else (R6). -/
def RegFile.write (f : RegFile) (r : Reg) (v : Byte) : RegFile :=
  match r with
  | .a => { f with a := v }
  | .b => { f with b := v }
  | .c => { f with c := v }
  | .d => { f with d := v }
  | .e => { f with e := v }
  | .h => { f with h := v }
  | .l => { f with l := v }

/-- `x[r]`, the register outputs `reg_A` to `reg_L` of R16 among its uses. -/
def State.read (s : State) (r : Reg) : Byte := s.regs.read r

/-- The output `diag_valid` (R16). -/
def State.diagValid (s : State) : Bool := s.diag.isSome

/-- The outputs `diag_space` and `diag_code` (R16), where `diag_valid` is 1. -/
def State.diagOutput (s : State) : Option (Bool × Byte) :=
  s.diag.map fun d => match d with
    | .unrecognizedOpcode space code => (space.port, code)

/-- The end of a transaction that raises nothing: register write-back and flag writes land together (R11, R50) and no
diagnostic is presented (00_scope.md, 6.3). -/
def State.complete (s : State) (regs : RegFile) (flags : FlagSet) : State :=
  { s with regs := regs, flags := flags, diag := none }

/-- `raise UnrecognizedOpcode(space, code)`: every register and flag keeps its value, the diagnostic is presented, the
transaction completes (R82, R86). Nothing is saved, vectored or masked (R90). -/
def raiseUnrecognized (d : Diag) (s : State) : Result :=
  .next { s with diag := some d }

/-- The `reset` port asserted (R93): the state of R12, no diagnostic. What the collaborator presents later is its own
(log 7). -/
def resetBlock (s : State) : Result :=
  .next { State.reset with inputs := s.inputs }

/-- No transaction performed (`start` not asserted, R16): nothing changes and no diagnostic is presented (log 17). -/
def idle (s : State) : Result :=
  .next (s.complete s.regs s.flags)

/-- Port values that assert nothing. -/
def quietPorts : Ports :=
  { reset := false, start := false, transaction := ⟨.primary, 0, 0⟩ }

/-- The port values of this step and the state that waits for the next ones. Where the collaborator presents nothing,
nothing is asserted (log 6). -/
def takeInput (s : State) : Ports × State :=
  match s.inputs with
  | [] => (quietPorts, s)
  | p :: rest => (p, { s with inputs := rest })

/-- The port values that start a transaction. -/
def startPorts (t : Transaction) : Ports :=
  { reset := false, start := true, transaction := t }

/-- The state with a transaction put before everything else the collaborator will present. -/
def State.withTransaction (s : State) (t : Transaction) : State :=
  { s with inputs := startPorts t :: s.inputs }

end Sys2Proof.Machine
end

