-- ==== Sys2Proof/Machine/Operands.lean ====
section
/-! DEFINITION. Operands: every operand form the spec gives: the register source, the immediate, the carry-adjusted right
operand, and the direction and fill bit of each shift. -/

namespace Sys2Proof.Machine

/-- A register source: `x[r]` before the transaction (R51). -/
def fromReg (r : Reg) (s : State) : Byte := s.read r

/-- An immediate source: the operand byte as it is, not extended, scaled or shifted (R32). -/
def fromImm (n : Byte) : Byte := n

/-- `carry_adjust(y) = (y + b2n(Carry)) mod 256`, Carry read before the operation (R48). The wrap is the source's own
(U3): no third adder input is meant. -/
def carryAdjust (y : Byte) (s : State) : Byte :=
  BitVec.ofNat 8 ((y.toNat + s.flags.carry.toNat) % 256)

/-- The direction column of R70's table. -/
def shiftDirection : ShiftOp → Direction
  | .rlc => .left
  | .rrc => .right
  | .rl => .left
  | .rr => .right
  | .sla => .left
  | .sra => .right
  | .srl => .right

/-- The fill_bit column of R70's table, from the value and the Carry flag before the transaction. SLA fills with 1
(R75; decision D17, log 8); RL and RR are the through-carry rotations (decision D19, log 9). -/
def fillBit (op : ShiftOp) (v : Byte) (carry : Bool) : Bool :=
  match op with
  | .rlc => v.getLsbD 7
  | .rrc => v.getLsbD 0
  | .rl => carry
  | .rr => carry
  | .sla => true
  | .sra => v.getLsbD 7
  | .srl => false

end Sys2Proof.Machine
end

