-- ==== Sys2Proof/Machine/Alu.lean ====
section
/-! DEFINITION. Alu: the operation functions (R47), the ALU Executor (R46), the one-bit shift primitive (R70), and the
shared shapes of an instruction: accumulate, discard (compare), in place, shift. -/

namespace Sys2Proof.Machine

/-- Wrapping addition, overflow the carry out of bit 7 (R47, R61). -/
def add8 (x y : Byte) : Byte × Bool :=
  (BitVec.ofNat 8 ((x.toNat + y.toNat) % 256), decide (x.toNat + y.toNat ≥ 256))

/-- Wrapping subtraction, overflow the borrow (R47, R61). -/
def sub8 (x y : Byte) : Byte × Bool :=
  (BitVec.ofInt 8 (((x.toNat : Int) - (y.toNat : Int)) % 256), decide (x.toNat < y.toNat))

/-- Bitwise and, overflow always false (R47). -/
def and8 (x y : Byte) : Byte × Bool := (x &&& y, false)

/-- Bitwise or, overflow always false (R47). -/
def or8 (x y : Byte) : Byte × Bool := (x ||| y, false)

/-- Bitwise exclusive or, overflow always false (R47). -/
def xor8 (x y : Byte) : Byte × Bool := (x ^^^ y, false)

/-- `AluApply(fn, left, right, classifier)` (R46): the result and the new flags. It writes no register. -/
def aluApply (fn : Byte → Byte → Byte × Bool) (left right : Byte) (cls : Classifier) (old : FlagSet) :
    Byte × FlagSet :=
  let r := fn left right
  (r.1, flagApply cls left right r.1 r.2 old)

/-- `shift(direction, value, fill_bit)` (R70): the result and the bit shifted out. -/
def shift (dir : Direction) (v : Byte) (fill : Bool) : Byte × Bool :=
  match dir with
  | .left => (BitVec.ofNat 8 (2 * v.toNat % 256 + fill.toNat), v.getLsbD 7)
  | .right => (BitVec.ofNat 8 (v.toNat / 2 + 128 * fill.toNat), v.getLsbD 0)

/-- `x[A] <- AluApply(fn, x[A], y, cls)`: Add, Subtract, And, Or, Xor write the result to A (R7, R49). -/
def accumulate (fn : Byte → Byte → Byte × Bool) (cls : Classifier) (y : Byte) (s : State) : Result :=
  let r := aluApply fn (s.read .a) y cls s.flags
  .next (s.complete (s.regs.write .a r.1) r.2)

/-- `_ = AluApply(fn, x[A], y, cls)`: Compare writes no register (R49; conflict C6). -/
def discard (fn : Byte → Byte → Byte × Bool) (cls : Classifier) (y : Byte) (s : State) : Result :=
  let r := aluApply fn (s.read .a) y cls s.flags
  .next (s.complete s.regs r.2)

/-- `x[r] <- AluApply(fn, x[r], 1, cls)`: Increment and Decrement write the selected register (R47, R49). -/
def inPlace (fn : Byte → Byte → Byte × Bool) (cls : Classifier) (r : Reg) (s : State) : Result :=
  let q := aluApply fn (s.read r) 1#8 cls s.flags
  .next (s.complete (s.regs.write r q.1) q.2)

/-- `ShiftOp(r, direction, f)` (R70): the selected register supplies the value and receives the result. The Shift row of
the flag table does not use `y`, given as 0 (R45). -/
def shiftReg (op : ShiftOp) (r : Reg) (s : State) : Result :=
  let v := s.read r
  let q := shift (shiftDirection op) v (fillBit op v s.flags.carry)
  .next (s.complete (s.regs.write r q.1) (flagApply .shift v 0#8 q.1 q.2 s.flags))

end Sys2Proof.Machine
end

