-- ==== Sys2Proof/Machine/Arithmetic.lean ====
section
/-! DEFINITION. Arithmetic: the meanings of ADD, ADC, SUB, SBC and CP (41_add_sub_compare.md, R51 to R60), each over one shared operation. -/

namespace Sys2Proof.Machine

/-- ADD: `x[A] <- AluApply(add8, x[A], y, Add)` (R51, R52). -/
def addToA (y : Byte) (s : State) : Result :=
  accumulate add8 .add y s

/-- ADD_A_B (R51). -/
def execAddAB (s : State) : Result := addToA (fromReg .b s) s

/-- ADD_A_C (R51). -/
def execAddAC (s : State) : Result := addToA (fromReg .c s) s

/-- ADD_A_D (R51). -/
def execAddAD (s : State) : Result := addToA (fromReg .d s) s

/-- ADD_A_E (R51). -/
def execAddAE (s : State) : Result := addToA (fromReg .e s) s

/-- ADD_A_H (R51). -/
def execAddAH (s : State) : Result := addToA (fromReg .h s) s

/-- ADD_A_L (R51). -/
def execAddAL (s : State) : Result := addToA (fromReg .l s) s

/-- ADD_A_A (R51). -/
def execAddAA (s : State) : Result := addToA (fromReg .a s) s

/-- ADD_A_D8 (R52). -/
def execAddAD8 (n : Byte) (s : State) : Result := addToA (fromImm n) s

/-- ADC: as ADD with the carry-adjusted right operand (R48) (R53, R54). -/
def adcToA (y : Byte) (s : State) : Result :=
  accumulate add8 .add (carryAdjust y s) s

/-- ADC_A_B (R53). -/
def execAdcAB (s : State) : Result := adcToA (fromReg .b s) s

/-- ADC_A_C (R53). -/
def execAdcAC (s : State) : Result := adcToA (fromReg .c s) s

/-- ADC_A_D (R53). -/
def execAdcAD (s : State) : Result := adcToA (fromReg .d s) s

/-- ADC_A_E (R53). -/
def execAdcAE (s : State) : Result := adcToA (fromReg .e s) s

/-- ADC_A_H (R53). -/
def execAdcAH (s : State) : Result := adcToA (fromReg .h s) s

/-- ADC_A_L (R53). -/
def execAdcAL (s : State) : Result := adcToA (fromReg .l s) s

/-- ADC_A_A (R53). -/
def execAdcAA (s : State) : Result := adcToA (fromReg .a s) s

/-- ADC_A_D8 (R54). -/
def execAdcAD8 (n : Byte) (s : State) : Result := adcToA (fromImm n) s

/-- SUB: `x[A] <- AluApply(sub8, x[A], y, Subtract)` (R55, R56). -/
def subFromA (y : Byte) (s : State) : Result :=
  accumulate sub8 .subtract y s

/-- SUB_A_B (R55). -/
def execSubAB (s : State) : Result := subFromA (fromReg .b s) s

/-- SUB_A_C (R55). -/
def execSubAC (s : State) : Result := subFromA (fromReg .c s) s

/-- SUB_A_D (R55). -/
def execSubAD (s : State) : Result := subFromA (fromReg .d s) s

/-- SUB_A_E (R55). -/
def execSubAE (s : State) : Result := subFromA (fromReg .e s) s

/-- SUB_A_H (R55). -/
def execSubAH (s : State) : Result := subFromA (fromReg .h s) s

/-- SUB_A_L (R55). -/
def execSubAL (s : State) : Result := subFromA (fromReg .l s) s

/-- SUB_A_A (R55). -/
def execSubAA (s : State) : Result := subFromA (fromReg .a s) s

/-- SUB_A_D8 (R56). -/
def execSubAD8 (n : Byte) (s : State) : Result := subFromA (fromImm n) s

/-- SBC: as SUB with the carry-adjusted right operand (R48) (R57, R58). -/
def sbcFromA (y : Byte) (s : State) : Result :=
  accumulate sub8 .subtract (carryAdjust y s) s

/-- SBC_A_B (R57). -/
def execSbcAB (s : State) : Result := sbcFromA (fromReg .b s) s

/-- SBC_A_C (R57). -/
def execSbcAC (s : State) : Result := sbcFromA (fromReg .c s) s

/-- SBC_A_D (R57). -/
def execSbcAD (s : State) : Result := sbcFromA (fromReg .d s) s

/-- SBC_A_E (R57). -/
def execSbcAE (s : State) : Result := sbcFromA (fromReg .e s) s

/-- SBC_A_H (R57). -/
def execSbcAH (s : State) : Result := sbcFromA (fromReg .h s) s

/-- SBC_A_L (R57). -/
def execSbcAL (s : State) : Result := sbcFromA (fromReg .l s) s

/-- SBC_A_A (R57). -/
def execSbcAA (s : State) : Result := sbcFromA (fromReg .a s) s

/-- SBC_A_D8 (R58). -/
def execSbcAD8 (n : Byte) (s : State) : Result := sbcFromA (fromImm n) s

/-- CP: `_ = AluApply(sub8, x[A], y, Compare)`, no register written (R59, R60). -/
def compareA (y : Byte) (s : State) : Result :=
  discard sub8 .compare y s

/-- CP_A_B (R59). -/
def execCpAB (s : State) : Result := compareA (fromReg .b s) s

/-- CP_A_C (R59). -/
def execCpAC (s : State) : Result := compareA (fromReg .c s) s

/-- CP_A_D (R59). -/
def execCpAD (s : State) : Result := compareA (fromReg .d s) s

/-- CP_A_E (R59). -/
def execCpAE (s : State) : Result := compareA (fromReg .e s) s

/-- CP_A_H (R59). -/
def execCpAH (s : State) : Result := compareA (fromReg .h s) s

/-- CP_A_L (R59). -/
def execCpAL (s : State) : Result := compareA (fromReg .l s) s

/-- CP_A_A (R59). -/
def execCpAA (s : State) : Result := compareA (fromReg .a s) s

/-- CP_A_D8 (R60). -/
def execCpAD8 (n : Byte) (s : State) : Result := compareA (fromImm n) s

end Sys2Proof.Machine
end

