-- ==== Sys2Proof/WellFormed.lean ====
section
/-! DEFINITION. WellFormed: the checks on a transaction. Every term of `Instr` is well formed as it stands: its only fields
are bytes, and every immediate and every byte after the escape is legal (R32, R52, R80). What can be ill formed is a
transaction, whose code may have no table entry and whose operand byte may be other than the one an assembler writes. The
check below is the bit test of R34, written apart from the decoder so that the two can be held against each other (R83). -/

namespace Sys2Proof

/-- Does the code have an entry in the space? The bit tests that end R34. -/
def recognized (space : CodeSpace) (code : Byte) : Bool :=
  let hi := code.toNat / 64
  let mid := code.toNat / 8 % 8
  let lo := code.toNat % 8
  match space with
  | .primary =>
    code == 0xCB || (hi == 2 && lo != 6) || (hi == 3 && lo == 6) || (hi == 0 && lo / 2 == 2 && mid != 6)
  | .extended => hi == 0 && mid != 6 && lo != 6

/-- Is the operand byte consulted? By the immediate forms and the escape only (R33). -/
def usesOperand (space : CodeSpace) (code : Byte) : Bool :=
  match space with
  | .primary => code == 0xCB || (code.toNat / 64 == 3 && code.toNat % 8 == 6)
  | .extended => false

/-- An operand byte the code ignores is written 0 (log 12). -/
def Transaction.canonicalOperand (t : Transaction) : Bool :=
  usesOperand t.entry t.opcode || t.operand == 0

/-- A well-formed transaction: a recognized code with a canonical operand byte. The machine accepts every transaction;
this is what an encoder produces. -/
def Transaction.wf (t : Transaction) : Bool :=
  recognized t.entry t.opcode && t.canonicalOperand

/-- Does the transaction complete without the diagnostic? Its code is recognized and, after the escape, the forwarded
code is too (R80, R87, R89). The escape value is decision D3 (log 2), the forwarded byte D7 (log 4), the set of codes D2 to
D6 (logs 1 and 3). -/
def Transaction.clean (t : Transaction) : Bool :=
  recognized t.entry t.opcode &&
    (!(t.entry == .primary && t.opcode == 0xCB) || recognized .extended t.operand)

end Sys2Proof
end

