-- ==== Sys2Proof/Decode.lean ====
section
/-! DEFINITION. Decode: the two code maps from the bit fields of R28 and R29, the decoder over them, and after it the
encoder written from the code tables of R30 and R31. PRESUMED (log 1, log 2): the numbers are the spec's decisions D2 and
D3, taken there from the SM83. -/

namespace Sys2Proof

/-- The escape code `ESC` (R4, R80; decision D3, log 2). -/
def esc : Byte := 0xCB

/-- The `rsel` field (R29): B C D E H L at 0 to 5, A at 7, and 6 selects no register (log 3). -/
def selectedReg (rsel : BitVec 3) : Option Reg :=
  match rsel.toNat with
  | 0 => some .b
  | 1 => some .c
  | 2 => some .d
  | 3 => some .e
  | 4 => some .h
  | 5 => some .l
  | 7 => some .a
  | _ => none

/-- The `aop` field of formats PA-R and PA-I (R28). -/
def selectedAlu (aop : BitVec 3) : AluOp :=
  match aop.toNat with
  | 0 => .add
  | 1 => .adc
  | 2 => .sub
  | 3 => .sbc
  | 4 => .and
  | 5 => .xor
  | 6 => .or
  | _ => .cp

/-- The `sop` field of format XS (R28); 6 is no operation (R78, log 3). -/
def selectedShift (sop : BitVec 3) : Option ShiftOp :=
  match sop.toNat with
  | 0 => some .rlc
  | 1 => some .rrc
  | 2 => some .rl
  | 3 => some .rr
  | 4 => some .sla
  | 5 => some .sra
  | 7 => some .srl
  | _ => none

/-- PRIMARY_MAP by the formats of R28: PE, PA-R, PA-I, PU; every other code has no entry (R30, R34). -/
def primaryMap (code : Byte) : Option PrimaryOp :=
  let hi : BitVec 2 := code.extractLsb' 6 2
  let mid : BitVec 3 := code.extractLsb' 3 3
  let lo : BitVec 3 := code.extractLsb' 0 3
  if code = esc then some .escape
  else if hi = 0b10 then (selectedReg lo).map (.accReg (selectedAlu mid))
  else if hi = 0b11 ∧ lo = 0b110 then some (.accImm (selectedAlu mid))
  else if hi = 0b00 ∧ lo = 0b100 then (selectedReg mid).map .inc
  else if hi = 0b00 ∧ lo = 0b101 then (selectedReg mid).map .dec
  else none

/-- EXTENDED_MAP by format XS of R28; every other code has no entry (R31, R34). -/
def extendedMap (code : Byte) : Option ExtendedOp :=
  let hi : BitVec 2 := code.extractLsb' 6 2
  let sop : BitVec 3 := code.extractLsb' 3 3
  let rsel : BitVec 3 := code.extractLsb' 0 3
  if hi = 0b00 then
    match selectedShift sop, selectedReg rsel with
    | some op, some r => some (.shift op r)
    | _, _ => none
  else none

/-- The instruction of a PA-R entry (R37 names them `<OP>_A_<r>`). -/
def accRegInstr : AluOp → Reg → Instr
  | .add, .b => .addAB
  | .add, .c => .addAC
  | .add, .d => .addAD
  | .add, .e => .addAE
  | .add, .h => .addAH
  | .add, .l => .addAL
  | .add, .a => .addAA
  | .adc, .b => .adcAB
  | .adc, .c => .adcAC
  | .adc, .d => .adcAD
  | .adc, .e => .adcAE
  | .adc, .h => .adcAH
  | .adc, .l => .adcAL
  | .adc, .a => .adcAA
  | .sub, .b => .subAB
  | .sub, .c => .subAC
  | .sub, .d => .subAD
  | .sub, .e => .subAE
  | .sub, .h => .subAH
  | .sub, .l => .subAL
  | .sub, .a => .subAA
  | .sbc, .b => .sbcAB
  | .sbc, .c => .sbcAC
  | .sbc, .d => .sbcAD
  | .sbc, .e => .sbcAE
  | .sbc, .h => .sbcAH
  | .sbc, .l => .sbcAL
  | .sbc, .a => .sbcAA
  | .and, .b => .andAB
  | .and, .c => .andAC
  | .and, .d => .andAD
  | .and, .e => .andAE
  | .and, .h => .andAH
  | .and, .l => .andAL
  | .and, .a => .andAA
  | .xor, .b => .xorAB
  | .xor, .c => .xorAC
  | .xor, .d => .xorAD
  | .xor, .e => .xorAE
  | .xor, .h => .xorAH
  | .xor, .l => .xorAL
  | .xor, .a => .xorAA
  | .or, .b => .orAB
  | .or, .c => .orAC
  | .or, .d => .orAD
  | .or, .e => .orAE
  | .or, .h => .orAH
  | .or, .l => .orAL
  | .or, .a => .orAA
  | .cp, .b => .cpAB
  | .cp, .c => .cpAC
  | .cp, .d => .cpAD
  | .cp, .e => .cpAE
  | .cp, .h => .cpAH
  | .cp, .l => .cpAL
  | .cp, .a => .cpAA

/-- The instruction of a PA-I entry with its immediate (R32). -/
def accImmInstr (op : AluOp) (n : Byte) : Instr :=
  match op with
  | .add => .addAD8 n
  | .adc => .adcAD8 n
  | .sub => .subAD8 n
  | .sbc => .sbcAD8 n
  | .and => .andAD8 n
  | .xor => .xorAD8 n
  | .or => .orAD8 n
  | .cp => .cpAD8 n

/-- The instruction of an INC entry. -/
def incInstr : Reg → Instr
  | .b => .incB
  | .c => .incC
  | .d => .incD
  | .e => .incE
  | .h => .incH
  | .l => .incL
  | .a => .incA

/-- The instruction of a DEC entry. -/
def decInstr : Reg → Instr
  | .b => .decB
  | .c => .decC
  | .d => .decD
  | .e => .decE
  | .h => .decH
  | .l => .decL
  | .a => .decA

/-- The instruction of an Extended entry. -/
def shiftInstr : ShiftOp → Reg → Instr
  | .rlc, .b => .rlcB
  | .rlc, .c => .rlcC
  | .rlc, .d => .rlcD
  | .rlc, .e => .rlcE
  | .rlc, .h => .rlcH
  | .rlc, .l => .rlcL
  | .rlc, .a => .rlcA
  | .rrc, .b => .rrcB
  | .rrc, .c => .rrcC
  | .rrc, .d => .rrcD
  | .rrc, .e => .rrcE
  | .rrc, .h => .rrcH
  | .rrc, .l => .rrcL
  | .rrc, .a => .rrcA
  | .rl, .b => .rlB
  | .rl, .c => .rlC
  | .rl, .d => .rlD
  | .rl, .e => .rlE
  | .rl, .h => .rlH
  | .rl, .l => .rlL
  | .rl, .a => .rlA
  | .rr, .b => .rrB
  | .rr, .c => .rrC
  | .rr, .d => .rrD
  | .rr, .e => .rrE
  | .rr, .h => .rrH
  | .rr, .l => .rrL
  | .rr, .a => .rrA
  | .sla, .b => .slaB
  | .sla, .c => .slaC
  | .sla, .d => .slaD
  | .sla, .e => .slaE
  | .sla, .h => .slaH
  | .sla, .l => .slaL
  | .sla, .a => .slaA
  | .sra, .b => .sraB
  | .sra, .c => .sraC
  | .sra, .d => .sraD
  | .sra, .e => .sraE
  | .sra, .h => .sraH
  | .sra, .l => .sraL
  | .sra, .a => .sraA
  | .srl, .b => .srlB
  | .srl, .c => .srlC
  | .srl, .d => .srlD
  | .srl, .e => .srlE
  | .srl, .h => .srlH
  | .srl, .l => .srlL
  | .srl, .a => .srlA

/-- The instruction of a Primary entry; the operand byte is used by PA-I and the escape only (R33). -/
def primaryInstr (op : PrimaryOp) (operand : Byte) : Instr :=
  match op with
  | .accReg op r => accRegInstr op r
  | .accImm op => accImmInstr op operand
  | .inc r => incInstr r
  | .dec r => decInstr r
  | .escape => .prefixCb operand

/-- The instruction of an Extended entry, its operand byte unused (R33). -/
def extendedInstr : ExtendedOp → Instr
  | .shift op r => shiftInstr op r

/-- The decoder: total on every (space, code, operand), reading no state (R27), and rejecting a code with no entry by
the name `unrecognizedOpcode` (R34, R85). -/
def decode (space : CodeSpace) (code operand : Byte) : Except Diag Instr :=
  match space with
  | .primary =>
    match primaryMap code with
    | some op => .ok (primaryInstr op operand)
    | none => .error (.unrecognizedOpcode .primary code)
  | .extended =>
    match extendedMap code with
    | some op => .ok (extendedInstr op)
    | none => .error (.unrecognizedOpcode .extended code)

/-- The encoder: the transaction that presents an instruction, its codes those of the tables of R30 and R31. An operand
byte that the instruction ignores is 0 (DESIGN CHOICE, log 12). -/
def encode : Instr → Transaction
  | .addAB => ⟨.primary, 0x80, 0⟩
  | .addAC => ⟨.primary, 0x81, 0⟩
  | .addAD => ⟨.primary, 0x82, 0⟩
  | .addAE => ⟨.primary, 0x83, 0⟩
  | .addAH => ⟨.primary, 0x84, 0⟩
  | .addAL => ⟨.primary, 0x85, 0⟩
  | .addAA => ⟨.primary, 0x87, 0⟩
  | .adcAB => ⟨.primary, 0x88, 0⟩
  | .adcAC => ⟨.primary, 0x89, 0⟩
  | .adcAD => ⟨.primary, 0x8A, 0⟩
  | .adcAE => ⟨.primary, 0x8B, 0⟩
  | .adcAH => ⟨.primary, 0x8C, 0⟩
  | .adcAL => ⟨.primary, 0x8D, 0⟩
  | .adcAA => ⟨.primary, 0x8F, 0⟩
  | .subAB => ⟨.primary, 0x90, 0⟩
  | .subAC => ⟨.primary, 0x91, 0⟩
  | .subAD => ⟨.primary, 0x92, 0⟩
  | .subAE => ⟨.primary, 0x93, 0⟩
  | .subAH => ⟨.primary, 0x94, 0⟩
  | .subAL => ⟨.primary, 0x95, 0⟩
  | .subAA => ⟨.primary, 0x97, 0⟩
  | .sbcAB => ⟨.primary, 0x98, 0⟩
  | .sbcAC => ⟨.primary, 0x99, 0⟩
  | .sbcAD => ⟨.primary, 0x9A, 0⟩
  | .sbcAE => ⟨.primary, 0x9B, 0⟩
  | .sbcAH => ⟨.primary, 0x9C, 0⟩
  | .sbcAL => ⟨.primary, 0x9D, 0⟩
  | .sbcAA => ⟨.primary, 0x9F, 0⟩
  | .andAB => ⟨.primary, 0xA0, 0⟩
  | .andAC => ⟨.primary, 0xA1, 0⟩
  | .andAD => ⟨.primary, 0xA2, 0⟩
  | .andAE => ⟨.primary, 0xA3, 0⟩
  | .andAH => ⟨.primary, 0xA4, 0⟩
  | .andAL => ⟨.primary, 0xA5, 0⟩
  | .andAA => ⟨.primary, 0xA7, 0⟩
  | .xorAB => ⟨.primary, 0xA8, 0⟩
  | .xorAC => ⟨.primary, 0xA9, 0⟩
  | .xorAD => ⟨.primary, 0xAA, 0⟩
  | .xorAE => ⟨.primary, 0xAB, 0⟩
  | .xorAH => ⟨.primary, 0xAC, 0⟩
  | .xorAL => ⟨.primary, 0xAD, 0⟩
  | .xorAA => ⟨.primary, 0xAF, 0⟩
  | .orAB => ⟨.primary, 0xB0, 0⟩
  | .orAC => ⟨.primary, 0xB1, 0⟩
  | .orAD => ⟨.primary, 0xB2, 0⟩
  | .orAE => ⟨.primary, 0xB3, 0⟩
  | .orAH => ⟨.primary, 0xB4, 0⟩
  | .orAL => ⟨.primary, 0xB5, 0⟩
  | .orAA => ⟨.primary, 0xB7, 0⟩
  | .cpAB => ⟨.primary, 0xB8, 0⟩
  | .cpAC => ⟨.primary, 0xB9, 0⟩
  | .cpAD => ⟨.primary, 0xBA, 0⟩
  | .cpAE => ⟨.primary, 0xBB, 0⟩
  | .cpAH => ⟨.primary, 0xBC, 0⟩
  | .cpAL => ⟨.primary, 0xBD, 0⟩
  | .cpAA => ⟨.primary, 0xBF, 0⟩
  | .addAD8 n => ⟨.primary, 0xC6, n⟩
  | .adcAD8 n => ⟨.primary, 0xCE, n⟩
  | .subAD8 n => ⟨.primary, 0xD6, n⟩
  | .sbcAD8 n => ⟨.primary, 0xDE, n⟩
  | .andAD8 n => ⟨.primary, 0xE6, n⟩
  | .xorAD8 n => ⟨.primary, 0xEE, n⟩
  | .orAD8 n => ⟨.primary, 0xF6, n⟩
  | .cpAD8 n => ⟨.primary, 0xFE, n⟩
  | .incB => ⟨.primary, 0x04, 0⟩
  | .incC => ⟨.primary, 0x0C, 0⟩
  | .incD => ⟨.primary, 0x14, 0⟩
  | .incE => ⟨.primary, 0x1C, 0⟩
  | .incH => ⟨.primary, 0x24, 0⟩
  | .incL => ⟨.primary, 0x2C, 0⟩
  | .incA => ⟨.primary, 0x3C, 0⟩
  | .decB => ⟨.primary, 0x05, 0⟩
  | .decC => ⟨.primary, 0x0D, 0⟩
  | .decD => ⟨.primary, 0x15, 0⟩
  | .decE => ⟨.primary, 0x1D, 0⟩
  | .decH => ⟨.primary, 0x25, 0⟩
  | .decL => ⟨.primary, 0x2D, 0⟩
  | .decA => ⟨.primary, 0x3D, 0⟩
  | .prefixCb ext => ⟨.primary, 0xCB, ext⟩
  | .rlcB => ⟨.extended, 0x00, 0⟩
  | .rlcC => ⟨.extended, 0x01, 0⟩
  | .rlcD => ⟨.extended, 0x02, 0⟩
  | .rlcE => ⟨.extended, 0x03, 0⟩
  | .rlcH => ⟨.extended, 0x04, 0⟩
  | .rlcL => ⟨.extended, 0x05, 0⟩
  | .rlcA => ⟨.extended, 0x07, 0⟩
  | .rrcB => ⟨.extended, 0x08, 0⟩
  | .rrcC => ⟨.extended, 0x09, 0⟩
  | .rrcD => ⟨.extended, 0x0A, 0⟩
  | .rrcE => ⟨.extended, 0x0B, 0⟩
  | .rrcH => ⟨.extended, 0x0C, 0⟩
  | .rrcL => ⟨.extended, 0x0D, 0⟩
  | .rrcA => ⟨.extended, 0x0F, 0⟩
  | .rlB => ⟨.extended, 0x10, 0⟩
  | .rlC => ⟨.extended, 0x11, 0⟩
  | .rlD => ⟨.extended, 0x12, 0⟩
  | .rlE => ⟨.extended, 0x13, 0⟩
  | .rlH => ⟨.extended, 0x14, 0⟩
  | .rlL => ⟨.extended, 0x15, 0⟩
  | .rlA => ⟨.extended, 0x17, 0⟩
  | .rrB => ⟨.extended, 0x18, 0⟩
  | .rrC => ⟨.extended, 0x19, 0⟩
  | .rrD => ⟨.extended, 0x1A, 0⟩
  | .rrE => ⟨.extended, 0x1B, 0⟩
  | .rrH => ⟨.extended, 0x1C, 0⟩
  | .rrL => ⟨.extended, 0x1D, 0⟩
  | .rrA => ⟨.extended, 0x1F, 0⟩
  | .slaB => ⟨.extended, 0x20, 0⟩
  | .slaC => ⟨.extended, 0x21, 0⟩
  | .slaD => ⟨.extended, 0x22, 0⟩
  | .slaE => ⟨.extended, 0x23, 0⟩
  | .slaH => ⟨.extended, 0x24, 0⟩
  | .slaL => ⟨.extended, 0x25, 0⟩
  | .slaA => ⟨.extended, 0x27, 0⟩
  | .sraB => ⟨.extended, 0x28, 0⟩
  | .sraC => ⟨.extended, 0x29, 0⟩
  | .sraD => ⟨.extended, 0x2A, 0⟩
  | .sraE => ⟨.extended, 0x2B, 0⟩
  | .sraH => ⟨.extended, 0x2C, 0⟩
  | .sraL => ⟨.extended, 0x2D, 0⟩
  | .sraA => ⟨.extended, 0x2F, 0⟩
  | .srlB => ⟨.extended, 0x38, 0⟩
  | .srlC => ⟨.extended, 0x39, 0⟩
  | .srlD => ⟨.extended, 0x3A, 0⟩
  | .srlE => ⟨.extended, 0x3B, 0⟩
  | .srlH => ⟨.extended, 0x3C, 0⟩
  | .srlL => ⟨.extended, 0x3D, 0⟩
  | .srlA => ⟨.extended, 0x3F, 0⟩

/-- The transaction of an opcode-table word: bits 7..0 the code, bits 15..8 the operand, every bit at or above `nbits`
zero. A table word names no code space, so it is looked up in the Primary space first and, where that has no entry, in
the Extended one (DESIGN CHOICE, log 10). -/
def tableTransaction (nbits w : Nat) : Transaction :=
  let bits := w % 2 ^ nbits
  let code : Byte := BitVec.ofNat 8 bits
  let operand : Byte := BitVec.ofNat 8 (bits / 256)
  if (primaryMap code).isNone ∧ (extendedMap code).isSome then ⟨.extended, code, operand⟩
  else ⟨.primary, code, operand⟩

/-- The instruction the decoder reads from an opcode-table word (log 10). -/
def decodeTableWord (nbits w : Nat) : Option Instr :=
  let t := tableTransaction nbits w
  match decode t.entry t.opcode t.operand with
  | .ok i => some i
  | .error _ => none

end Sys2Proof
end

