-- ==== Sys2Proof/Machine/Shift.lean ====
section
/-! DEFINITION. Shift: the meanings of the seven rotates and shifts (44_shift_rotate.md, R71 to R77), on any register in place. -/

namespace Sys2Proof.Machine

/-- RLC_B (R71). -/
def execRlcB (s : State) : Result := shiftReg .rlc .b s

/-- RLC_C (R71). -/
def execRlcC (s : State) : Result := shiftReg .rlc .c s

/-- RLC_D (R71). -/
def execRlcD (s : State) : Result := shiftReg .rlc .d s

/-- RLC_E (R71). -/
def execRlcE (s : State) : Result := shiftReg .rlc .e s

/-- RLC_H (R71). -/
def execRlcH (s : State) : Result := shiftReg .rlc .h s

/-- RLC_L (R71). -/
def execRlcL (s : State) : Result := shiftReg .rlc .l s

/-- RLC_A (R71). -/
def execRlcA (s : State) : Result := shiftReg .rlc .a s

/-- RRC_B (R72). -/
def execRrcB (s : State) : Result := shiftReg .rrc .b s

/-- RRC_C (R72). -/
def execRrcC (s : State) : Result := shiftReg .rrc .c s

/-- RRC_D (R72). -/
def execRrcD (s : State) : Result := shiftReg .rrc .d s

/-- RRC_E (R72). -/
def execRrcE (s : State) : Result := shiftReg .rrc .e s

/-- RRC_H (R72). -/
def execRrcH (s : State) : Result := shiftReg .rrc .h s

/-- RRC_L (R72). -/
def execRrcL (s : State) : Result := shiftReg .rrc .l s

/-- RRC_A (R72). -/
def execRrcA (s : State) : Result := shiftReg .rrc .a s

/-- RL_B (R73). -/
def execRlB (s : State) : Result := shiftReg .rl .b s

/-- RL_C (R73). -/
def execRlC (s : State) : Result := shiftReg .rl .c s

/-- RL_D (R73). -/
def execRlD (s : State) : Result := shiftReg .rl .d s

/-- RL_E (R73). -/
def execRlE (s : State) : Result := shiftReg .rl .e s

/-- RL_H (R73). -/
def execRlH (s : State) : Result := shiftReg .rl .h s

/-- RL_L (R73). -/
def execRlL (s : State) : Result := shiftReg .rl .l s

/-- RL_A (R73). -/
def execRlA (s : State) : Result := shiftReg .rl .a s

/-- RR_B (R74). -/
def execRrB (s : State) : Result := shiftReg .rr .b s

/-- RR_C (R74). -/
def execRrC (s : State) : Result := shiftReg .rr .c s

/-- RR_D (R74). -/
def execRrD (s : State) : Result := shiftReg .rr .d s

/-- RR_E (R74). -/
def execRrE (s : State) : Result := shiftReg .rr .e s

/-- RR_H (R74). -/
def execRrH (s : State) : Result := shiftReg .rr .h s

/-- RR_L (R74). -/
def execRrL (s : State) : Result := shiftReg .rr .l s

/-- RR_A (R74). -/
def execRrA (s : State) : Result := shiftReg .rr .a s

/-- SLA_B (R75). -/
def execSlaB (s : State) : Result := shiftReg .sla .b s

/-- SLA_C (R75). -/
def execSlaC (s : State) : Result := shiftReg .sla .c s

/-- SLA_D (R75). -/
def execSlaD (s : State) : Result := shiftReg .sla .d s

/-- SLA_E (R75). -/
def execSlaE (s : State) : Result := shiftReg .sla .e s

/-- SLA_H (R75). -/
def execSlaH (s : State) : Result := shiftReg .sla .h s

/-- SLA_L (R75). -/
def execSlaL (s : State) : Result := shiftReg .sla .l s

/-- SLA_A (R75). -/
def execSlaA (s : State) : Result := shiftReg .sla .a s

/-- SRA_B (R76). -/
def execSraB (s : State) : Result := shiftReg .sra .b s

/-- SRA_C (R76). -/
def execSraC (s : State) : Result := shiftReg .sra .c s

/-- SRA_D (R76). -/
def execSraD (s : State) : Result := shiftReg .sra .d s

/-- SRA_E (R76). -/
def execSraE (s : State) : Result := shiftReg .sra .e s

/-- SRA_H (R76). -/
def execSraH (s : State) : Result := shiftReg .sra .h s

/-- SRA_L (R76). -/
def execSraL (s : State) : Result := shiftReg .sra .l s

/-- SRA_A (R76). -/
def execSraA (s : State) : Result := shiftReg .sra .a s

/-- SRL_B (R77). -/
def execSrlB (s : State) : Result := shiftReg .srl .b s

/-- SRL_C (R77). -/
def execSrlC (s : State) : Result := shiftReg .srl .c s

/-- SRL_D (R77). -/
def execSrlD (s : State) : Result := shiftReg .srl .d s

/-- SRL_E (R77). -/
def execSrlE (s : State) : Result := shiftReg .srl .e s

/-- SRL_H (R77). -/
def execSrlH (s : State) : Result := shiftReg .srl .h s

/-- SRL_L (R77). -/
def execSrlL (s : State) : Result := shiftReg .srl .l s

/-- SRL_A (R77). -/
def execSrlA (s : State) : Result := shiftReg .srl .a s

end Sys2Proof.Machine
end

