-- ==== Sys2Proof/Machine/Escape.lean ====
section
/-! DEFINITION. Escape: the meaning of PREFIX_CB (45_dispatch.md, R80), which looks its operand byte up in the Extended map and performs what it finds there. -/

namespace Sys2Proof.Machine

/-- The meaning an Extended entry selects (R81): that of the instruction itself, so one repair serves both ways in. -/
def runExtended (op : ExtendedOp) (s : State) : Result :=
  match op with
  | .shift .rlc .b => execRlcB s
  | .shift .rlc .c => execRlcC s
  | .shift .rlc .d => execRlcD s
  | .shift .rlc .e => execRlcE s
  | .shift .rlc .h => execRlcH s
  | .shift .rlc .l => execRlcL s
  | .shift .rlc .a => execRlcA s
  | .shift .rrc .b => execRrcB s
  | .shift .rrc .c => execRrcC s
  | .shift .rrc .d => execRrcD s
  | .shift .rrc .e => execRrcE s
  | .shift .rrc .h => execRrcH s
  | .shift .rrc .l => execRrcL s
  | .shift .rrc .a => execRrcA s
  | .shift .rl .b => execRlB s
  | .shift .rl .c => execRlC s
  | .shift .rl .d => execRlD s
  | .shift .rl .e => execRlE s
  | .shift .rl .h => execRlH s
  | .shift .rl .l => execRlL s
  | .shift .rl .a => execRlA s
  | .shift .rr .b => execRrB s
  | .shift .rr .c => execRrC s
  | .shift .rr .d => execRrD s
  | .shift .rr .e => execRrE s
  | .shift .rr .h => execRrH s
  | .shift .rr .l => execRrL s
  | .shift .rr .a => execRrA s
  | .shift .sla .b => execSlaB s
  | .shift .sla .c => execSlaC s
  | .shift .sla .d => execSlaD s
  | .shift .sla .e => execSlaE s
  | .shift .sla .h => execSlaH s
  | .shift .sla .l => execSlaL s
  | .shift .sla .a => execSlaA s
  | .shift .sra .b => execSraB s
  | .shift .sra .c => execSraC s
  | .shift .sra .d => execSraD s
  | .shift .sra .e => execSraE s
  | .shift .sra .h => execSraH s
  | .shift .sra .l => execSraL s
  | .shift .sra .a => execSraA s
  | .shift .srl .b => execSrlB s
  | .shift .srl .c => execSrlC s
  | .shift .srl .d => execSrlD s
  | .shift .srl .e => execSrlE s
  | .shift .srl .h => execSrlH s
  | .shift .srl .l => execSrlL s
  | .shift .srl .a => execSrlA s

/-- PREFIX_CB (R80): `execute(ESC, operand) = execute_extended(opcode := operand, ..)`. The forwarded byte is the operand
of the same transaction (decision D7, log 4), and a byte with no Extended entry is reported as `(Extended, operand)`. -/
def execPrefixCb (ext : Byte) (s : State) : Result :=
  match extendedMap ext with
  | some op => runExtended op s
  | none => raiseUnrecognized (.unrecognizedOpcode .extended ext) s

end Sys2Proof.Machine
end

