-- ==== Sys2Proof/Machine/IncDec.lean ====
section
/-! DEFINITION. IncDec: the meanings of INC and DEC (43_inc_dec.md, R68, R69), on any register in place. -/

namespace Sys2Proof.Machine

/-- INC: `x[r] <- AluApply(add8, x[r], 1, Increment)` (R68). -/
def incReg (r : Reg) (s : State) : Result :=
  inPlace add8 .increment r s

/-- INC_B (R68). -/
def execIncB (s : State) : Result := incReg .b s

/-- INC_C (R68). -/
def execIncC (s : State) : Result := incReg .c s

/-- INC_D (R68). -/
def execIncD (s : State) : Result := incReg .d s

/-- INC_E (R68). -/
def execIncE (s : State) : Result := incReg .e s

/-- INC_H (R68). -/
def execIncH (s : State) : Result := incReg .h s

/-- INC_L (R68). -/
def execIncL (s : State) : Result := incReg .l s

/-- INC_A (R68). -/
def execIncA (s : State) : Result := incReg .a s

/-- DEC: `x[r] <- AluApply(sub8, x[r], 1, Decrement)` (R69). -/
def decReg (r : Reg) (s : State) : Result :=
  inPlace sub8 .decrement r s

/-- DEC_B (R69). -/
def execDecB (s : State) : Result := decReg .b s

/-- DEC_C (R69). -/
def execDecC (s : State) : Result := decReg .c s

/-- DEC_D (R69). -/
def execDecD (s : State) : Result := decReg .d s

/-- DEC_E (R69). -/
def execDecE (s : State) : Result := decReg .e s

/-- DEC_H (R69). -/
def execDecH (s : State) : Result := decReg .h s

/-- DEC_L (R69). -/
def execDecL (s : State) : Result := decReg .l s

/-- DEC_A (R69). -/
def execDecA (s : State) : Result := decReg .a s

end Sys2Proof.Machine
end

