-- ==== Sys2Proof/Machine/Logic.lean ====
section
/-! DEFINITION. Logic: the meanings of AND, XOR and OR (42_logic.md, R62 to R67), each over one shared operation. -/

namespace Sys2Proof.Machine

/-- AND: `x[A] <- AluApply(and8, x[A], y, And)` (R62, R63). -/
def andIntoA (y : Byte) (s : State) : Result :=
  accumulate and8 .and y s

/-- AND_A_B (R62). -/
def execAndAB (s : State) : Result := andIntoA (fromReg .b s) s

/-- AND_A_C (R62). -/
def execAndAC (s : State) : Result := andIntoA (fromReg .c s) s

/-- AND_A_D (R62). -/
def execAndAD (s : State) : Result := andIntoA (fromReg .d s) s

/-- AND_A_E (R62). -/
def execAndAE (s : State) : Result := andIntoA (fromReg .e s) s

/-- AND_A_H (R62). -/
def execAndAH (s : State) : Result := andIntoA (fromReg .h s) s

/-- AND_A_L (R62). -/
def execAndAL (s : State) : Result := andIntoA (fromReg .l s) s

/-- AND_A_A (R62). -/
def execAndAA (s : State) : Result := andIntoA (fromReg .a s) s

/-- AND_A_D8 (R63). -/
def execAndAD8 (n : Byte) (s : State) : Result := andIntoA (fromImm n) s

/-- XOR: `x[A] <- AluApply(xor8, x[A], y, Xor)` (R64, R65). -/
def xorIntoA (y : Byte) (s : State) : Result :=
  accumulate xor8 .xor y s

/-- XOR_A_B (R64). -/
def execXorAB (s : State) : Result := xorIntoA (fromReg .b s) s

/-- XOR_A_C (R64). -/
def execXorAC (s : State) : Result := xorIntoA (fromReg .c s) s

/-- XOR_A_D (R64). -/
def execXorAD (s : State) : Result := xorIntoA (fromReg .d s) s

/-- XOR_A_E (R64). -/
def execXorAE (s : State) : Result := xorIntoA (fromReg .e s) s

/-- XOR_A_H (R64). -/
def execXorAH (s : State) : Result := xorIntoA (fromReg .h s) s

/-- XOR_A_L (R64). -/
def execXorAL (s : State) : Result := xorIntoA (fromReg .l s) s

/-- XOR_A_A (R64). -/
def execXorAA (s : State) : Result := xorIntoA (fromReg .a s) s

/-- XOR_A_D8 (R65). -/
def execXorAD8 (n : Byte) (s : State) : Result := xorIntoA (fromImm n) s

/-- OR: `x[A] <- AluApply(or8, x[A], y, Or)` (R66, R67). -/
def orIntoA (y : Byte) (s : State) : Result :=
  accumulate or8 .or y s

/-- OR_A_B (R66). -/
def execOrAB (s : State) : Result := orIntoA (fromReg .b s) s

/-- OR_A_C (R66). -/
def execOrAC (s : State) : Result := orIntoA (fromReg .c s) s

/-- OR_A_D (R66). -/
def execOrAD (s : State) : Result := orIntoA (fromReg .d s) s

/-- OR_A_E (R66). -/
def execOrAE (s : State) : Result := orIntoA (fromReg .e s) s

/-- OR_A_H (R66). -/
def execOrAH (s : State) : Result := orIntoA (fromReg .h s) s

/-- OR_A_L (R66). -/
def execOrAL (s : State) : Result := orIntoA (fromReg .l s) s

/-- OR_A_A (R66). -/
def execOrAA (s : State) : Result := orIntoA (fromReg .a s) s

/-- OR_A_D8 (R67). -/
def execOrAD8 (n : Byte) (s : State) : Result := orIntoA (fromImm n) s

end Sys2Proof.Machine
end

