-- ==== Sys2Proof/Machine/Transaction.lean ====
section
/-! DEFINITION. Transaction: the two entry points (R15, R79, R81), one transaction, one set of port values (R16, R93), and
the meaning of a list of transactions (decision D10). -/

namespace Sys2Proof.Machine

/-- What a lookup found is performed; a failed lookup is reported (R79, R81, R82). -/
def perform (found : Except Diag Instr) (s : State) : Result :=
  match found with
  | .ok i => exec i s
  | .error d => raiseUnrecognized d s

/-- `execute(opcode, operand)`: the Primary dispatcher (R79). -/
def execute (opcode operand : Byte) (s : State) : Result :=
  perform (decode .primary opcode operand) s

/-- `execute_extended(opcode, operand)`: the Extended dispatcher, an entry point of its own (R81). -/
def executeExtended (opcode operand : Byte) (s : State) : Result :=
  perform (decode .extended opcode operand) s

/-- One transaction (R15, R16): the entry selects the dispatcher. -/
def transact (t : Transaction) (s : State) : Result :=
  match t.entry with
  | .primary => execute t.opcode t.operand s
  | .extended => executeExtended t.opcode t.operand s

/-- One set of port values (R16): `reset` overrides everything (R89, R93), `start` performs the transaction, and with
neither nothing is performed. -/
def present (p : Ports) (s : State) : Result :=
  if p.reset then resetBlock s
  else if p.start then transact p.transaction s
  else idle s

/-- The meaning of a list of transactions (decision D10; R24): they take effect one at a time, in order, and the answer
is the last state with the diagnostics raised, in order. A stop, which no meaning makes, would leave the state where it
was. -/
def transactAll : List Transaction → State → State × List Diag
  | [], s => (s, [])
  | t :: ts, s =>
    match transact t s with
    | .next s' => ((transactAll ts s').1, s'.diag.toList ++ (transactAll ts s').2)
    | .fault _ => (s, [])
    | .refused _ => (s, [])

end Sys2Proof.Machine
end

