-- ==== Sys2Proof/Machine/Step.lean ====
section
/-! DEFINITION. Step: one step presents the next set of port values to the block (R16, R97: the transaction is the unit of
time). -/

namespace Sys2Proof.Machine

/-- One step: the next port values, presented. -/
def step (s : State) : Host.Outcome State Fault Refusal :=
  present (takeInput s).1 (takeInput s).2

/-- `s` with the transaction of an opcode-table word presented before anything else, so that the next step runs it
(log 10, log 11). -/
def State.withFetchWord (s : State) (nbits w : Nat) : State :=
  s.withTransaction (tableTransaction nbits w)

end Sys2Proof.Machine
end

