-- ==== Sys2Proof/Safety.lean ====
section
/-! DEFINITION. Safety: what a safe run is, the invariant of the diagnostic output, and the words claims use for a frame. -/

namespace Sys2Proof.Machine

/-- A run of `n` steps in which every step answers a next state and none raises the diagnostic: the natural premise of a
claim about a list of transactions (R86, U2). -/
def SafeRun : Nat → State → Prop
  | 0, _ => True
  | n + 1, s => ∃ t, step s = .next t ∧ t.diag = none ∧ SafeRun n t

/-- Port values that raise nothing: a reset (decision D14, log 5), no start (log 17), or a transaction that completes
without the diagnostic. -/
def Ports.clean (p : Ports) : Bool :=
  p.reset || !p.start || p.transaction.clean

/-- A presented diagnostic names a pair that R34 lists as unrecognized (the codes: logs 1 to 3). -/
def DiagnosticNamesUnrecognized (s : State) : Prop :=
  ∀ space code, s.diag = some (.unrecognizedOpcode space code) → recognized space code = false

/-- The registers other than those listed hold in `t` what they held in `s`. -/
def SameRegsBut (written : List Reg) (s t : State) : Prop :=
  ∀ r, r ∉ written → t.read r = s.read r

/-- The four flags of `t`. -/
def FlagsAre (t : State) (zero subtract halfCarry carry : Bool) : Prop :=
  t.flags.zero = zero ∧ t.flags.subtract = subtract ∧ t.flags.halfCarry = halfCarry ∧ t.flags.carry = carry

/-- The transaction raised nothing (the diagnostic output is log 5) and took nothing of what the collaborator has yet to
present (the waiting inputs are the model's own field, log 6). -/
def RaisedNothing (s t : State) : Prop :=
  t.diag = none ∧ t.inputs = s.inputs

end Sys2Proof.Machine
end

