-- ==== Sys2Proof/Certificates/Slice0/Obligations.lean ====
section
/-! DEFINITION. Obligations: the statements about the machine, and before them the words they share. -/

namespace Sys2Proof.Claims

open Sys2Proof.Machine

/-- The effect of an addition of `y` to A: result, the Add row (R39) and frame. -/
def AddEffect (s : State) (y : Nat) (t : State) : Prop :=
  let x := (s.read .a).toNat
  (t.read .a).toNat = (x + y) % 256 ∧
    FlagsAre t (decide ((x + y) % 256 = 0)) false (decide (x % 16 + y % 16 > 15)) (decide (x + y ≥ 256)) ∧
    SameRegsBut [.a] s t ∧ RaisedNothing s t

/-- The effect of a subtraction of `y` from A: result, the Subtract row (R40) and frame. -/
def SubEffect (s : State) (y : Nat) (t : State) : Prop :=
  let x := (s.read .a).toNat
  ((t.read .a).toNat : Int) = ((x : Int) - (y : Int)) % 256 ∧
    FlagsAre t (decide (x = y)) true (decide (x % 16 < y % 16)) (decide (x < y)) ∧
    SameRegsBut [.a] s t ∧ RaisedNothing s t

/-- The effect of a comparison of A with `y`: the Subtract row (R40) and no register written (R59). -/
def CompareEffect (s : State) (y : Nat) (t : State) : Prop :=
  let x := (s.read .a).toNat
  FlagsAre t (decide (x = y)) true (decide (x % 16 < y % 16)) (decide (x < y)) ∧
    SameRegsBut [] s t ∧ RaisedNothing s t

/-- The effect of a bitwise operation `f` of `y` into A, with the HalfCarry its row gives (R43, R44). -/
def LogicEffect (f : Bool → Bool → Bool) (half : Bool) (s : State) (y : Byte) (t : State) : Prop :=
  (∀ i, i < 8 → (t.read .a).getLsbD i = f ((s.read .a).getLsbD i) (y.getLsbD i)) ∧
    FlagsAre t (decide ((t.read .a).toNat = 0)) false half false ∧
    SameRegsBut [.a] s t ∧ RaisedNothing s t

/-- The effect of INC on `r` (R41, R68). -/
def IncEffect (r : Reg) (s t : State) : Prop :=
  let v := (s.read r).toNat
  (t.read r).toNat = (v + 1) % 256 ∧
    FlagsAre t (decide (v = 255)) false (decide (v % 16 = 15)) s.flags.carry ∧
    SameRegsBut [r] s t ∧ RaisedNothing s t

/-- The effect of DEC on `r` (R42, R69). -/
def DecEffect (r : Reg) (s t : State) : Prop :=
  let v := (s.read r).toNat
  ((t.read r).toNat : Int) = ((v : Int) - 1) % 256 ∧
    FlagsAre t (decide (v = 1)) false (decide (v % 16 = 0)) s.flags.carry ∧
    SameRegsBut [r] s t ∧ RaisedNothing s t

/-- The effect of a shift of `r` with the given result, and the conditions for Zero and for Carry (R45). -/
def ShiftEffect (r : Reg) (result : Nat) (zero carry : Prop) (s t : State) : Prop :=
  (t.read r).toNat = result ∧ (t.flags.zero = true ↔ zero) ∧ t.flags.subtract = false ∧
    t.flags.halfCarry = false ∧ (t.flags.carry = true ↔ carry) ∧ SameRegsBut [r] s t ∧ RaisedNothing s t

/-- R70's table: direction and fill bit of each operation, from the value and the previous Carry flag. The names of its rows rest on decision D19 (log entry 9), SLA's fill bit on decision D17 (log entry 8). -/
def shiftTable : ShiftOp → Direction × (Byte → Bool → Bool)
  | .rlc => (.left, fun v _ => v.getLsbD 7)
  | .rl => (.left, fun _ previous => previous)
  | .sla => (.left, fun _ _ => true)
  | .rrc => (.right, fun v _ => v.getLsbD 0)
  | .rr => (.right, fun _ previous => previous)
  | .sra => (.right, fun v _ => v.getLsbD 7)
  | .srl => (.right, fun _ _ => false)

/-- R70's primitive on bits: `after` is `before` moved by one, `fill` in the vacated position, `out` the bit shifted out. -/
def MovedOneBit (dir : Direction) (before after : Byte) (fill out : Bool) : Prop :=
  match dir with
  | .left => (∀ i, i < 7 → after.getLsbD (i + 1) = before.getLsbD i) ∧ after.getLsbD 0 = fill ∧
      out = before.getLsbD 7
  | .right => (∀ i, i < 7 → after.getLsbD i = before.getLsbD (i + 1)) ∧ after.getLsbD 7 = fill ∧
      out = before.getLsbD 0

/-- The registers a Primary entry may write, with the operand byte as the escape's forwarded code (R49). -/
def writtenBy (op : PrimaryOp) (operand : Byte) : List Reg :=
  match op with
  | .accReg .cp _ => []
  | .accImm .cp => []
  | .accReg _ _ => [.a]
  | .accImm _ => [.a]
  | .inc r => [r]
  | .dec r => [r]
  | .escape =>
    match extendedMap operand with
    | some (.shift _ r) => [r]
    | none => []

/-- The Primary entries that read Carry, or may forward to one that does (R9). -/
def readsCarry : PrimaryOp → Bool
  | .accReg .adc _ | .accReg .sbc _ | .accImm .adc | .accImm .sbc | .escape => true
  | _ => false

/-- The Primary entries that leave Carry as it was (R9, R41, R42). -/
def keepsCarry : PrimaryOp → Bool
  | .inc _ | .dec _ => true
  | _ => false

/-- `n` performances of one instruction, none where one of them stops. -/
def repeated : Nat → Instr → State → Option State
  | 0, _, s => some s
  | n + 1, i, s =>
    match exec i s with
    | .next t => repeated n i t
    | .fault _ => none
    | .refused _ => none

end Sys2Proof.Claims

open Sys2Proof Sys2Proof.Machine

/-- Rows R39 to R44 of the flag table, flags in the order Zero, Subtract, HalfCarry, Carry. The edge value of R41 is the last clause. (R45, the Shift row, is in `ShiftsReduceToThePrimitive`.) -/
def Obligations.FlagTableRows : Prop :=
  ∀ (x y result : Byte) (overflow : Bool) (old : FlagSet),
    flagApply .add x y result overflow old =
      ⟨decide (result.toNat = 0), false, decide (x.toNat % 16 + y.toNat % 16 > 15), overflow⟩ ∧
    flagApply .subtract x y result overflow old =
      ⟨decide (result.toNat = 0), true, decide (x.toNat % 16 < y.toNat % 16), overflow⟩ ∧
    flagApply .compare x y result overflow old =
      ⟨decide (result.toNat = 0), true, decide (x.toNat % 16 < y.toNat % 16), overflow⟩ ∧
    flagApply .increment x y result overflow old =
      ⟨decide (result.toNat = 0), false, decide (x.toNat % 16 = 15), old.carry⟩ ∧
    flagApply .decrement x y result overflow old =
      ⟨decide (result.toNat = 0), false, decide (x.toNat % 16 = 0), old.carry⟩ ∧
    flagApply .and x y result overflow old = ⟨decide (result.toNat = 0), false, true, false⟩ ∧
    flagApply .or x y result overflow old = ⟨decide (result.toNat = 0), false, false, false⟩ ∧
    flagApply .xor x y result overflow old = ⟨decide (result.toNat = 0), false, false, false⟩ ∧
    aluApply add8 0xFF 1 .increment old = (0x00, ⟨true, false, true, old.carry⟩)

/-- R70 with its table (`Claims.shiftTable`), bit by bit, and the Shift row R45. That SLA moves in one 1 is the spec's decision D17 (log entry 8); that `.rl` and `.rr` are the through-carry rows is its decision D19 (log entry 9). `RaisedNothing` speaks of the model's ports (log entries 5 and 6). -/
def Obligations.ShiftsReduceToThePrimitive : Prop :=
  ∀ (op : ShiftOp) (r : Reg) (s : State), ∃ t, exec (shiftInstr op r) s = .next t ∧
    Claims.MovedOneBit (Claims.shiftTable op).1 (s.read r) (t.read r)
      ((Claims.shiftTable op).2 (s.read r) s.flags.carry) t.flags.carry ∧
    t.flags.zero = decide ((t.read r).toNat = 0) ∧ t.flags.subtract = false ∧ t.flags.halfCarry = false ∧
    SameRegsBut [r] s t ∧ RaisedNothing s t

/-- R51 (41_add_sub_compare.md). The code numbers are the spec's decision D2 (log entry 1), not the source's. That the table has these entries is its decision D4 (log entry 3). `RaisedNothing` speaks of the model's ports (log entries 5 and 6). -/
def Obligations.AddRegisterResultAndFrame : Prop :=
  ∀ i code r, (i, code, r) ∈ ([(.addAB, 0x80, .b), (.addAC, 0x81, .c), (.addAD, 0x82, .d), (.addAE, 0x83, .e), (.addAH, 0x84, .h),
      (.addAL, 0x85, .l), (.addAA, 0x87, .a)] : List (Instr × Byte × Reg)) →
    ∀ (operand : Byte) (s : State), decode .primary code operand = .ok i ∧
      ∃ t, exec i s = .next t ∧ Claims.AddEffect s (s.read r).toNat t

/-- R52 (41_add_sub_compare.md). The code numbers are the spec's decision D2 (log entry 1), not the source's. That the table has these entries is its decision D4 (log entry 3). `RaisedNothing` speaks of the model's ports (log entries 5 and 6). -/
def Obligations.AddImmediateResultAndFrame : Prop :=
  ∀ (n : Byte) (s : State), decode .primary 0xC6 n = .ok (.addAD8 n) ∧
    ∃ t, exec (.addAD8 n) s = .next t ∧ Claims.AddEffect s n.toNat t

/-- R53 (41_add_sub_compare.md). The code numbers are the spec's decision D2 (log entry 1), not the source's. That the table has these entries is its decision D4 (log entry 3). `RaisedNothing` speaks of the model's ports (log entries 5 and 6). -/
def Obligations.AddWithCarryRegisterResultAndFrame : Prop :=
  ∀ i code r, (i, code, r) ∈ ([(.adcAB, 0x88, .b), (.adcAC, 0x89, .c), (.adcAD, 0x8A, .d), (.adcAE, 0x8B, .e), (.adcAH, 0x8C, .h),
      (.adcAL, 0x8D, .l), (.adcAA, 0x8F, .a)] : List (Instr × Byte × Reg)) →
    ∀ (operand : Byte) (s : State), decode .primary code operand = .ok i ∧
      ∃ t, exec i s = .next t ∧ Claims.AddEffect s (((s.read r).toNat + s.flags.carry.toNat) % 256) t

/-- R54 (41_add_sub_compare.md). The code numbers are the spec's decision D2 (log entry 1), not the source's. That the table has these entries is its decision D4 (log entry 3). `RaisedNothing` speaks of the model's ports (log entries 5 and 6). -/
def Obligations.AddWithCarryImmediateResultAndFrame : Prop :=
  ∀ (n : Byte) (s : State), decode .primary 0xCE n = .ok (.adcAD8 n) ∧
    ∃ t, exec (.adcAD8 n) s = .next t ∧ Claims.AddEffect s ((n.toNat + s.flags.carry.toNat) % 256) t

/-- R55 (41_add_sub_compare.md). The code numbers are the spec's decision D2 (log entry 1), not the source's. That the table has these entries is its decision D4 (log entry 3). `RaisedNothing` speaks of the model's ports (log entries 5 and 6). -/
def Obligations.SubtractRegisterResultAndFrame : Prop :=
  ∀ i code r, (i, code, r) ∈ ([(.subAB, 0x90, .b), (.subAC, 0x91, .c), (.subAD, 0x92, .d), (.subAE, 0x93, .e), (.subAH, 0x94, .h),
      (.subAL, 0x95, .l), (.subAA, 0x97, .a)] : List (Instr × Byte × Reg)) →
    ∀ (operand : Byte) (s : State), decode .primary code operand = .ok i ∧
      ∃ t, exec i s = .next t ∧ Claims.SubEffect s (s.read r).toNat t

/-- R56 (41_add_sub_compare.md). The code numbers are the spec's decision D2 (log entry 1), not the source's. That the table has these entries is its decision D4 (log entry 3). `RaisedNothing` speaks of the model's ports (log entries 5 and 6). -/
def Obligations.SubtractImmediateResultAndFrame : Prop :=
  ∀ (n : Byte) (s : State), decode .primary 0xD6 n = .ok (.subAD8 n) ∧
    ∃ t, exec (.subAD8 n) s = .next t ∧ Claims.SubEffect s n.toNat t

/-- R57 (41_add_sub_compare.md). The code numbers are the spec's decision D2 (log entry 1), not the source's. That the table has these entries is its decision D4 (log entry 3). `RaisedNothing` speaks of the model's ports (log entries 5 and 6). -/
def Obligations.SubtractWithCarryRegisterResultAndFrame : Prop :=
  ∀ i code r, (i, code, r) ∈ ([(.sbcAB, 0x98, .b), (.sbcAC, 0x99, .c), (.sbcAD, 0x9A, .d), (.sbcAE, 0x9B, .e), (.sbcAH, 0x9C, .h),
      (.sbcAL, 0x9D, .l), (.sbcAA, 0x9F, .a)] : List (Instr × Byte × Reg)) →
    ∀ (operand : Byte) (s : State), decode .primary code operand = .ok i ∧
      ∃ t, exec i s = .next t ∧ Claims.SubEffect s (((s.read r).toNat + s.flags.carry.toNat) % 256) t

/-- R58 (41_add_sub_compare.md). The code numbers are the spec's decision D2 (log entry 1), not the source's. That the table has these entries is its decision D4 (log entry 3). `RaisedNothing` speaks of the model's ports (log entries 5 and 6). -/
def Obligations.SubtractWithCarryImmediateResultAndFrame : Prop :=
  ∀ (n : Byte) (s : State), decode .primary 0xDE n = .ok (.sbcAD8 n) ∧
    ∃ t, exec (.sbcAD8 n) s = .next t ∧ Claims.SubEffect s ((n.toNat + s.flags.carry.toNat) % 256) t

/-- R62 (42_logic.md). The code numbers are the spec's decision D2 (log entry 1), not the source's. That the table has these entries is its decision D4 (log entry 3). `RaisedNothing` speaks of the model's ports (log entries 5 and 6). -/
def Obligations.AndRegisterResultAndFrame : Prop :=
  ∀ i code r, (i, code, r) ∈ ([(.andAB, 0xA0, .b), (.andAC, 0xA1, .c), (.andAD, 0xA2, .d), (.andAE, 0xA3, .e), (.andAH, 0xA4, .h),
      (.andAL, 0xA5, .l), (.andAA, 0xA7, .a)] : List (Instr × Byte × Reg)) →
    ∀ (operand : Byte) (s : State), decode .primary code operand = .ok i ∧
      ∃ t, exec i s = .next t ∧ Claims.LogicEffect (· && ·) true s (s.read r) t

/-- R63 (42_logic.md). The code numbers are the spec's decision D2 (log entry 1), not the source's. That the table has these entries is its decision D4 (log entry 3). `RaisedNothing` speaks of the model's ports (log entries 5 and 6). -/
def Obligations.AndImmediateResultAndFrame : Prop :=
  ∀ (n : Byte) (s : State), decode .primary 0xE6 n = .ok (.andAD8 n) ∧
    ∃ t, exec (.andAD8 n) s = .next t ∧ Claims.LogicEffect (· && ·) true s n t

/-- R64 (42_logic.md). The code numbers are the spec's decision D2 (log entry 1), not the source's. That the table has these entries is its decision D4 (log entry 3). `RaisedNothing` speaks of the model's ports (log entries 5 and 6). -/
def Obligations.XorRegisterResultAndFrame : Prop :=
  ∀ i code r, (i, code, r) ∈ ([(.xorAB, 0xA8, .b), (.xorAC, 0xA9, .c), (.xorAD, 0xAA, .d), (.xorAE, 0xAB, .e), (.xorAH, 0xAC, .h),
      (.xorAL, 0xAD, .l), (.xorAA, 0xAF, .a)] : List (Instr × Byte × Reg)) →
    ∀ (operand : Byte) (s : State), decode .primary code operand = .ok i ∧
      ∃ t, exec i s = .next t ∧ Claims.LogicEffect Bool.xor false s (s.read r) t

/-- R65 (42_logic.md). The code numbers are the spec's decision D2 (log entry 1), not the source's. That the table has these entries is its decision D4 (log entry 3). `RaisedNothing` speaks of the model's ports (log entries 5 and 6). -/
def Obligations.XorImmediateResultAndFrame : Prop :=
  ∀ (n : Byte) (s : State), decode .primary 0xEE n = .ok (.xorAD8 n) ∧
    ∃ t, exec (.xorAD8 n) s = .next t ∧ Claims.LogicEffect Bool.xor false s n t

/-- R66 (42_logic.md). The code numbers are the spec's decision D2 (log entry 1), not the source's. That the table has these entries is its decision D4 (log entry 3). `RaisedNothing` speaks of the model's ports (log entries 5 and 6). -/
def Obligations.OrRegisterResultAndFrame : Prop :=
  ∀ i code r, (i, code, r) ∈ ([(.orAB, 0xB0, .b), (.orAC, 0xB1, .c), (.orAD, 0xB2, .d), (.orAE, 0xB3, .e), (.orAH, 0xB4, .h),
      (.orAL, 0xB5, .l), (.orAA, 0xB7, .a)] : List (Instr × Byte × Reg)) →
    ∀ (operand : Byte) (s : State), decode .primary code operand = .ok i ∧
      ∃ t, exec i s = .next t ∧ Claims.LogicEffect (· || ·) false s (s.read r) t

/-- R67 (42_logic.md). The code numbers are the spec's decision D2 (log entry 1), not the source's. That the table has these entries is its decision D4 (log entry 3). `RaisedNothing` speaks of the model's ports (log entries 5 and 6). -/
def Obligations.OrImmediateResultAndFrame : Prop :=
  ∀ (n : Byte) (s : State), decode .primary 0xF6 n = .ok (.orAD8 n) ∧
    ∃ t, exec (.orAD8 n) s = .next t ∧ Claims.LogicEffect (· || ·) false s n t

/-- R59 (41_add_sub_compare.md). The code numbers are the spec's decision D2 (log entry 1), not the source's. That the table has these entries is its decision D4 (log entry 3). `RaisedNothing` speaks of the model's ports (log entries 5 and 6). -/
def Obligations.CompareRegisterResultAndFrame : Prop :=
  ∀ i code r, (i, code, r) ∈ ([(.cpAB, 0xB8, .b), (.cpAC, 0xB9, .c), (.cpAD, 0xBA, .d), (.cpAE, 0xBB, .e), (.cpAH, 0xBC, .h),
      (.cpAL, 0xBD, .l), (.cpAA, 0xBF, .a)] : List (Instr × Byte × Reg)) →
    ∀ (operand : Byte) (s : State), decode .primary code operand = .ok i ∧
      ∃ t, exec i s = .next t ∧ Claims.CompareEffect s (s.read r).toNat t

/-- R60 (41_add_sub_compare.md). The code numbers are the spec's decision D2 (log entry 1), not the source's. That the table has these entries is its decision D4 (log entry 3). `RaisedNothing` speaks of the model's ports (log entries 5 and 6). -/
def Obligations.CompareImmediateResultAndFrame : Prop :=
  ∀ (n : Byte) (s : State), decode .primary 0xFE n = .ok (.cpAD8 n) ∧
    ∃ t, exec (.cpAD8 n) s = .next t ∧ Claims.CompareEffect s n.toNat t

/-- R68 (43_inc_dec.md); Carry is kept also on a wrap, and DEC writes Subtract false (U5). The code numbers are the spec's decision D2 (log entry 1), not the source's. That the table has these entries is its decision D4 (log entry 3). `RaisedNothing` speaks of the model's ports (log entries 5 and 6). -/
def Obligations.IncrementResultAndFrame : Prop :=
  ∀ i code r, (i, code, r) ∈ ([(.incB, 0x04, .b), (.incC, 0x0C, .c), (.incD, 0x14, .d), (.incE, 0x1C, .e), (.incH, 0x24, .h),
      (.incL, 0x2C, .l), (.incA, 0x3C, .a)] : List (Instr × Byte × Reg)) →
    ∀ (operand : Byte) (s : State), decode .primary code operand = .ok i ∧
      ∃ t, exec i s = .next t ∧ Claims.IncEffect r s t

/-- R69 (43_inc_dec.md); Carry is kept also on a wrap, and DEC writes Subtract false (U5). The code numbers are the spec's decision D2 (log entry 1), not the source's. That the table has these entries is its decision D4 (log entry 3). `RaisedNothing` speaks of the model's ports (log entries 5 and 6). -/
def Obligations.DecrementResultAndFrame : Prop :=
  ∀ i code r, (i, code, r) ∈ ([(.decB, 0x05, .b), (.decC, 0x0D, .c), (.decD, 0x15, .d), (.decE, 0x1D, .e), (.decH, 0x25, .h),
      (.decL, 0x2D, .l), (.decA, 0x3D, .a)] : List (Instr × Byte × Reg)) →
    ∀ (operand : Byte) (s : State), decode .primary code operand = .ok i ∧
      ∃ t, exec i s = .next t ∧ Claims.DecEffect r s t

/-- R71 (44_shift_rotate.md). That RLC names this rotation is decision D19 (log entry 9). The code numbers are the spec's decision D2 (log entry 1), not the source's. That the table has these entries is its decision D6 (log entry 3). `RaisedNothing` speaks of the model's ports (log entries 5 and 6). -/
def Obligations.RotateLeftCircularResultAndFrame : Prop :=
  ∀ i code r, (i, code, r) ∈ ([(.rlcB, 0x00, .b), (.rlcC, 0x01, .c), (.rlcD, 0x02, .d), (.rlcE, 0x03, .e), (.rlcH, 0x04, .h),
      (.rlcL, 0x05, .l), (.rlcA, 0x07, .a)] : List (Instr × Byte × Reg)) →
    ∀ (operand : Byte) (s : State), decode .extended code operand = .ok i ∧
      ∃ t, exec i s = .next t ∧
        let v := (s.read r).toNat
        Claims.ShiftEffect r (2 * v % 256 + v / 128) (v = 0) (v / 128 = 1) s t

/-- R72 (44_shift_rotate.md). That RRC names this rotation is decision D19 (log entry 9). The code numbers are the spec's decision D2 (log entry 1), not the source's. That the table has these entries is its decision D6 (log entry 3). `RaisedNothing` speaks of the model's ports (log entries 5 and 6). -/
def Obligations.RotateRightCircularResultAndFrame : Prop :=
  ∀ i code r, (i, code, r) ∈ ([(.rrcB, 0x08, .b), (.rrcC, 0x09, .c), (.rrcD, 0x0A, .d), (.rrcE, 0x0B, .e), (.rrcH, 0x0C, .h),
      (.rrcL, 0x0D, .l), (.rrcA, 0x0F, .a)] : List (Instr × Byte × Reg)) →
    ∀ (operand : Byte) (s : State), decode .extended code operand = .ok i ∧
      ∃ t, exec i s = .next t ∧
        let v := (s.read r).toNat
        Claims.ShiftEffect r (v / 2 + 128 * (v % 2)) (v = 0) (v % 2 = 1) s t

/-- R73 (44_shift_rotate.md). That RL names this rotation is decision D19 (log entry 9). The code numbers are the spec's decision D2 (log entry 1), not the source's. That the table has these entries is its decision D6 (log entry 3). `RaisedNothing` speaks of the model's ports (log entries 5 and 6). -/
def Obligations.RotateLeftThroughCarryResultAndFrame : Prop :=
  ∀ i code r, (i, code, r) ∈ ([(.rlB, 0x10, .b), (.rlC, 0x11, .c), (.rlD, 0x12, .d), (.rlE, 0x13, .e), (.rlH, 0x14, .h),
      (.rlL, 0x15, .l), (.rlA, 0x17, .a)] : List (Instr × Byte × Reg)) →
    ∀ (operand : Byte) (s : State), decode .extended code operand = .ok i ∧
      ∃ t, exec i s = .next t ∧
        let v := (s.read r).toNat
        Claims.ShiftEffect r (2 * v % 256 + s.flags.carry.toNat) (2 * v % 256 + s.flags.carry.toNat = 0) (v / 128 = 1) s t

/-- R74 (44_shift_rotate.md). That RR names this rotation is decision D19 (log entry 9). The code numbers are the spec's decision D2 (log entry 1), not the source's. That the table has these entries is its decision D6 (log entry 3). `RaisedNothing` speaks of the model's ports (log entries 5 and 6). -/
def Obligations.RotateRightThroughCarryResultAndFrame : Prop :=
  ∀ i code r, (i, code, r) ∈ ([(.rrB, 0x18, .b), (.rrC, 0x19, .c), (.rrD, 0x1A, .d), (.rrE, 0x1B, .e), (.rrH, 0x1C, .h),
      (.rrL, 0x1D, .l), (.rrA, 0x1F, .a)] : List (Instr × Byte × Reg)) →
    ∀ (operand : Byte) (s : State), decode .extended code operand = .ok i ∧
      ∃ t, exec i s = .next t ∧
        let v := (s.read r).toNat
        Claims.ShiftEffect r (v / 2 + 128 * s.flags.carry.toNat) (v / 2 + 128 * s.flags.carry.toNat = 0) (v % 2 = 1) s t

/-- R75 (44_shift_rotate.md). The reading of the fill is decision D17 (log entry 8). The code numbers are the spec's decision D2 (log entry 1), not the source's. That the table has these entries is its decision D6 (log entry 3). `RaisedNothing` speaks of the model's ports (log entries 5 and 6). -/
def Obligations.ShiftLeftArithmeticResultAndFrame : Prop :=
  ∀ i code r, (i, code, r) ∈ ([(.slaB, 0x20, .b), (.slaC, 0x21, .c), (.slaD, 0x22, .d), (.slaE, 0x23, .e), (.slaH, 0x24, .h),
      (.slaL, 0x25, .l), (.slaA, 0x27, .a)] : List (Instr × Byte × Reg)) →
    ∀ (operand : Byte) (s : State), decode .extended code operand = .ok i ∧
      ∃ t, exec i s = .next t ∧
        let v := (s.read r).toNat
        Claims.ShiftEffect r (2 * v % 256 + 1) False (v / 128 = 1) s t

/-- R76 (44_shift_rotate.md). The code numbers are the spec's decision D2 (log entry 1), not the source's. That the table has these entries is its decision D6 (log entry 3). `RaisedNothing` speaks of the model's ports (log entries 5 and 6). -/
def Obligations.ShiftRightArithmeticResultAndFrame : Prop :=
  ∀ i code r, (i, code, r) ∈ ([(.sraB, 0x28, .b), (.sraC, 0x29, .c), (.sraD, 0x2A, .d), (.sraE, 0x2B, .e), (.sraH, 0x2C, .h),
      (.sraL, 0x2D, .l), (.sraA, 0x2F, .a)] : List (Instr × Byte × Reg)) →
    ∀ (operand : Byte) (s : State), decode .extended code operand = .ok i ∧
      ∃ t, exec i s = .next t ∧
        let v := (s.read r).toNat
        Claims.ShiftEffect r (v / 2 + 128 * (v / 128)) (v ≤ 1) (v % 2 = 1) s t

/-- R77 (44_shift_rotate.md). The code numbers are the spec's decision D2 (log entry 1), not the source's. That the table has these entries is its decision D6 (log entry 3). `RaisedNothing` speaks of the model's ports (log entries 5 and 6). -/
def Obligations.ShiftRightLogicalResultAndFrame : Prop :=
  ∀ i code r, (i, code, r) ∈ ([(.srlB, 0x38, .b), (.srlC, 0x39, .c), (.srlD, 0x3A, .d), (.srlE, 0x3B, .e), (.srlH, 0x3C, .h),
      (.srlL, 0x3D, .l), (.srlA, 0x3F, .a)] : List (Instr × Byte × Reg)) →
    ∀ (operand : Byte) (s : State), decode .extended code operand = .ok i ∧
      ∃ t, exec i s = .next t ∧
        let v := (s.read r).toNat
        Claims.ShiftEffect r (v / 2) (v ≤ 1) (v % 2 = 1) s t

/-- R80: the forwarded byte is the operand byte (decision D7, log entry 4); the value 0xCB is decision D3 (log entry 2). `RaisedNothing` speaks of the model's ports (log entries 5 and 6). -/
def Obligations.PrefixCbRunsTheForwardedOperation : Prop :=
  ∀ e : Byte, decode .primary 0xCB e = .ok (.prefixCb e) ∧
    ∀ (i : Instr) (s : State), decode .extended e e = .ok i →
      ∃ t, exec (.prefixCb e) s = .next t ∧ exec i s = .next t ∧ RaisedNothing s t

/-- R80 (Exceptions), R82, with the Extended codes R34 lists. Which codes those are, 0xCB among them, rests on decisions D2, D5 and D6 (log entries 1 and 3), the forwarded byte on D7 (log entry 4), the form of the diagnostic on D8 (log entry 5). -/
def Obligations.PrefixCbReportsAnUnrecognizedForwardedCode : Prop :=
  recognized .extended 0xCB = false ∧
  ∀ (e : Byte) (s : State), recognized .extended e = false →
    exec (.prefixCb e) s = .next { s with diag := some (.unrecognizedOpcode .extended e) }

/-- R81, last sentence (law W15). The escape value is decision D3 (log entry 2), the forwarded byte decision D7 (log entry 4). -/
def Obligations.EscapeAndDirectEntryAgree : Prop :=
  ∀ (e operand : Byte) (s : State), execute 0xCB e s = executeExtended e operand s

/-- R86, R82. That every later transaction is as without it is decision D9 (log entry 5); the waiting inputs are the model's own field (log entry 6); the byte forwarded by the escape is decision D7 (log entry 4). The content of the diagnostic is left out here (decision D8): see `UnrecognizedDiagnosticNamesTableAndCode`. -/
def Obligations.UnrecognizedCodeIsAReportedNoOp : Prop :=
  ∀ (u : Transaction) (s : State) (d : Diag),
    (decode u.entry u.opcode u.operand = .error d ∨
      ∃ e, decode u.entry u.opcode u.operand = .ok (.prefixCb e) ∧ decode .extended e e = .error d) →
    ∃ t, transact u s = .next t ∧ t.regs = s.regs ∧ t.flags = s.flags ∧ t.inputs = s.inputs ∧
      t.diag.isSome = true ∧ ∀ next : Transaction, transact next t = transact next s

/-- R82, R34. The pair on the diagnostic is decision D8 (log entry 5), the set of codes rests on D2 to D6 (log entries 1 to 3). -/
def Obligations.UnrecognizedDiagnosticNamesTableAndCode : Prop :=
  ∀ (space : CodeSpace) (code operand : Byte) (s : State), recognized space code = false →
    transact ⟨space, code, operand⟩ s = .next { s with diag := some (.unrecognizedOpcode space code) }

/-- R87, over all constructors of Instr. PREFIX_CB alone can forward to a failing lookup, which is not a recognized operation (R80). Its premise rests on decision D7 (log entry 4), the set of instructions on D4 to D6 (log entry 3), the diagnostic output on D8 and D9 (log entry 5). -/
def Obligations.RecognizedOperationsRaiseNothing : Prop :=
  ∀ (i : Instr) (s : State), (∀ e, i = .prefixCb e → ∃ j, decode .extended e e = .ok j) →
    ∃ t, exec i s = .next t ∧ t.diag = none

/-- R33, over all 512 (space, code) pairs, the unrecognized ones too (law W14). -/
def Obligations.OperandIgnoredUnlessImmediateOrEscape : Prop :=
  ∀ (s : State) (entry : CodeSpace) (c o1 o2 : Byte),
    ¬ (entry = .primary ∧ (primaryMap c = some .escape ∨ ∃ op, primaryMap c = some (.accImm op))) →
    transact ⟨entry, c, o1⟩ s = transact ⟨entry, c, o2⟩ s

/-- The bit-field decoder (R28, R29) against the code tables (R30, R31) and R33. The numbers are decisions D2 and D3 (log entries 1 and 2), the set of entries D4 to D6 (log entry 3), the byte of the escape D7 (log entry 4); the operand byte `encode` writes where it is ignored is the model's choice (log entry 12) and enters no clause. -/
def Obligations.DecodeExactlyInvertsEncode : Prop :=
  (∀ i : Instr, decode (encode i).entry (encode i).opcode (encode i).operand = .ok i) ∧
  ∀ (space : CodeSpace) (code operand : Byte) (i : Instr), decode space code operand = .ok i ↔
    (encode i).entry = space ∧ (encode i).opcode = code ∧
      (usesOperand space code = true → (encode i).operand = operand)

/-- R34 (its last paragraph) against the decoder, and the counts of R30 and R31 (law W17). The numbers and the set of codes are decisions D2 to D6 (log entries 1 to 3), the pair (space, code) is decision D8 (log entry 5). -/
def Obligations.RecognizedCodesAreThoseOfTheBitTests : Prop :=
  (∀ (space : CodeSpace) (code operand : Byte),
    (recognized space code = true → ∃ i, decode space code operand = .ok i) ∧
    (recognized space code = false → decode space code operand = .error (.unrecognizedOpcode space code))) ∧
  ((List.range 256).filter fun c => recognized .primary (BitVec.ofNat 8 c)).length = 79 ∧
  ((List.range 256).filter fun c => recognized .extended (BitVec.ofNat 8 c)).length = 49

/-- R34: the complete sets, written as ranges with both ends included. They rest on decisions D2 to D6 (log entries 1 to 3). -/
def Obligations.UnrecognizedCodesAreTheListedRanges : Prop :=
  (∀ code operand : Byte, (∃ d, decode .primary code operand = .error d) ↔
    ∃ r ∈ ([(0x00, 0x03), (0x06, 0x0B), (0x0E, 0x13), (0x16, 0x1B), (0x1E, 0x23), (0x26, 0x2B), (0x2E, 0x3B),
      (0x3E, 0x7F), (0x86, 0x86), (0x8E, 0x8E), (0x96, 0x96), (0x9E, 0x9E), (0xA6, 0xA6), (0xAE, 0xAE),
      (0xB6, 0xB6), (0xBE, 0xBE), (0xC0, 0xC5), (0xC7, 0xCA), (0xCC, 0xCC), (0xCD, 0xCD), (0xCF, 0xD5),
      (0xD7, 0xDD), (0xDF, 0xE5), (0xE7, 0xED), (0xEF, 0xF5), (0xF7, 0xFD), (0xFF, 0xFF)] : List (Nat × Nat)), r.1 ≤ code.toNat ∧ code.toNat ≤ r.2) ∧
  (∀ code operand : Byte, (∃ d, decode .extended code operand = .error d) ↔
    ∃ r ∈ ([(0x06, 0x06), (0x0E, 0x0E), (0x16, 0x16), (0x1E, 0x1E), (0x26, 0x26), (0x2E, 0x2E), (0x30, 0x37),
      (0x3E, 0x3E), (0x40, 0xFF)] : List (Nat × Nat)), r.1 ≤ code.toNat ∧ code.toNat ≤ r.2)

/-- R28 and R29, one code of every format, bit by bit; the same byte 00 000 100 means INC_B and RLC_H in the two spaces (R31). The code numbers are the spec's decision D2 (log entry 1), the escape D3 and the byte it carries D7 (log entries 2 and 4), the pair of the rejected code D8 (log entry 5), the name RLC D19 (log entry 9). -/
def Obligations.SampleCodesDecodeToTheirInstructions : Prop :=
  decode .primary 0b10000001 0x00 = .ok .addAC ∧ decode .primary 0b10011111 0x00 = .ok .sbcAA ∧
  decode .primary 0b11111110 0x41 = .ok (.cpAD8 0x41) ∧ decode .primary 0b00000100 0x00 = .ok .incB ∧
  decode .primary 0b00101101 0x00 = .ok .decL ∧ decode .primary 0b11001011 0x10 = .ok (.prefixCb 0x10) ∧
  decode .extended 0b00000100 0x00 = .ok .rlcH ∧ decode .extended 0b00100011 0x00 = .ok .slaE ∧
  decode .extended 0b00111111 0x00 = .ok .srlA ∧
  decode .primary 0b11010011 0x00 = .error (.unrecognizedOpcode .primary 0xD3)

/-- R12 for the registers and flags. The absent diagnostic is the spec's decision (D8 and R17 for its form, D14 for reset; log entry 5). -/
def Obligations.ResetClearsRegistersAndFlags : Prop :=
  (∀ r : Reg, State.reset.read r = 0x00) ∧ FlagsAre State.reset false false false false ∧
    State.reset.diag = none

/-- R93, R89. Reset as an input that overrides is decision D14; that the later inputs stay is the model's choice (log entry 7), as is the list of inputs itself (log entry 6); the absent diagnostic is D14 too (log entry 5). -/
def Obligations.ResetPortOverridesTheTransaction : Prop :=
  ∀ (s : State) (p : Ports) (rest : List Ports), s.inputs = p :: rest → p.reset = true →
    step s = .next { State.reset with inputs := rest }

/-- R16 (one transaction for each assertion of `start`) and R88 (nothing else changes state). The empty list of inputs and the absent diagnostic are the model's choices (log entries 6 and 17). -/
def Obligations.NothingAssertedChangesNothing : Prop :=
  (∀ (s : State) (p : Ports) (rest : List Ports), s.inputs = p :: rest → p.reset = false → p.start = false →
    step s = .next { s with inputs := rest, diag := none }) ∧
  ∀ s : State, s.inputs = [] → step s = .next { s with diag := none }

/-- R79, R81, R82. The list of port values is the model's own form of the interface (D1, log entry 6), the diagnostic presented for a rejected code is decision D8 (log entry 5). -/
def Obligations.StepRunsTheDecodedInstruction : Prop :=
  ∀ (s : State) (p : Ports) (rest : List Ports), s.inputs = p :: rest → p.reset = false → p.start = true →
    (∀ i, decode p.transaction.entry p.transaction.opcode p.transaction.operand = .ok i →
      step s = exec i { s with inputs := rest }) ∧
    (∀ d, decode p.transaction.entry p.transaction.opcode p.transaction.operand = .error d →
      step s = .next { s with inputs := rest, diag := some d })

/-- The model's own interface to opcode_table.json: a table word names no code space, and the Primary one is tried first (log entries 10 and 11); the list it is put into is the model's field (log entry 6). -/
def Obligations.TableWordRunsAsTheNextStep : Prop :=
  ∀ (s : State) (nbits w : Nat) (i : Instr), decodeTableWord nbits w = some i →
    step (s.withFetchWord nbits w) = exec i s

/-- R84 and R86 for a started transaction, R93 for a reset. That a step answers a next state where nothing is started (R16) or the list of inputs is empty is the model's choice (log entries 6 and 17); that nothing can stop the machine is log entry 13, and reset at any time is decision D14 (log entry 7). -/
def Obligations.EveryStepAnswersANextState : Prop :=
  ∀ s : State, ∃ t, step s = .next t

/-- The start of `StepKeepsTheDiagnosticInvariant`. That reset presents no diagnostic is decision D14 (log entry 5). -/
def Obligations.DiagnosticInvariantHoldsAtReset : Prop :=
  DiagnosticNamesUnrecognized State.reset

/-- R85, with the escape's forwarded lookups. The content of the diagnostic is decision D8 (log entry 5), the set of codes D2 to D6 (log entries 1 to 3), the forwarded byte D7 (log entry 4); a reset presents none by D14 (log entries 5 and 7), a step that starts nothing by log entry 17. -/
def Obligations.StepKeepsTheDiagnosticInvariant : Prop :=
  ∀ s s' : State, DiagnosticNamesUnrecognized s → step s = .next s' → DiagnosticNamesUnrecognized s' 

/-- R49 (conflict C6: Compare writes none), law W18, through both entry points. The clause of the escape takes the operand byte as the forwarded code: decision D7 (log entry 4). -/
def Obligations.OnlyTheDestinationRegisterCanChange : Prop :=
  (∀ (code operand : Byte) (op : PrimaryOp) (s : State), primaryMap code = some op →
    ∃ t, transact ⟨.primary, code, operand⟩ s = .next t ∧ SameRegsBut (Claims.writtenBy op operand) s t) ∧
  (∀ (code operand : Byte) (op : ShiftOp) (r : Reg) (s : State), extendedMap code = some (.shift op r) →
    ∃ t, transact ⟨.extended, code, operand⟩ s = .next t ∧ SameRegsBut [r] s t)

/-- R9: "read by: nothing in this block", and every recognized operation writes the three. The premise on PREFIX_CB takes the operand byte as the forwarded code: decision D7 (log entry 4). -/
def Obligations.ZeroSubtractHalfCarryFeedNothing : Prop :=
  ∀ (i : Instr) (s : State) (z n h : Bool), (∀ e, i = .prefixCb e → ∃ j, decode .extended e e = .ok j) →
    exec i { s with flags := ⟨z, n, h, s.flags.carry⟩ } = exec i s

/-- R9, the Carry row. Which two rotations are RL and RR is decision D19 (log entry 9). -/
def Obligations.CarryFeedsOnlyFourOperations : Prop :=
  (∀ (code operand : Byte) (op : PrimaryOp) (s : State) (c : Bool), primaryMap code = some op →
    Claims.readsCarry op = false →
    ∃ t t', transact ⟨.primary, code, operand⟩ s = .next t ∧
      transact ⟨.primary, code, operand⟩ { s with flags := { s.flags with carry := c } } = .next t' ∧
      t'.regs = t.regs ∧ t'.inputs = t.inputs ∧ t'.diag = t.diag ∧
      t'.flags = { t.flags with carry := if Claims.keepsCarry op then c else t.flags.carry }) ∧
  (∀ (code operand : Byte) (op : ShiftOp) (r : Reg) (s : State) (c : Bool),
    extendedMap code = some (.shift op r) → op ≠ .rl → op ≠ .rr →
    transact ⟨.extended, code, operand⟩ { s with flags := { s.flags with carry := c } } =
      transact ⟨.extended, code, operand⟩ s)

/-- R17: an output of its transaction, which does not influence any later one (decision D9, log entry 5). -/
def Obligations.DiagnosticInfluencesNoLaterStep : Prop :=
  ∀ (s : State) (d : Option Diag), step { s with diag := d } = step s

/-- R24 (a), (b), (c) and decision D10 (log entry 11): the meaning of a list of transactions is the left fold. The list of port values is the model's form of the interface (log entry 6). -/
def Obligations.TransactionsTakeEffectInIssueOrder : Prop :=
  ∀ (ts : List Transaction) (s : State) (rest : List Ports), s.inputs = ts.map startPorts ++ rest →
    Sys2Proof.core.run ts.length s = .next (transactAll ts { s with inputs := rest }).1

/-- R85 to R87 and law W16, over decision D10's list of diagnostics (log entries 5 and 11). `Transaction.clean` builds in the escape value 0xCB (D3, log entry 2), the operand byte as the forwarded code (D7, log entry 4) and the set of codes (D2 to D6, log entries 1 and 3). -/
def Obligations.ListRaisesNoDiagnosticIffEveryTransactionIsClean : Prop :=
  ∀ (ts : List Transaction) (s : State),
    (transactAll ts s).2.length = (ts.filter fun t => !t.clean).length ∧
    ((transactAll ts s).2 = [] ↔ ∀ t ∈ ts, t.clean = true)

/-- R84, R86, R87: the premise a claim about a list of transactions takes. `Transaction.clean` builds in the escape value (D3, log entry 2), the forwarded byte (D7, log entry 4) and the set of codes (D2 to D6, log entries 1 and 3). That a step with `start` not asserted presents no diagnostic is the model's choice (log entry 17), that a reset presents none is D14 (log entries 5 and 7), and running on with no input is the model's choice (log entry 6). -/
def Obligations.CleanInputsRunSafelyForever : Prop :=
  ∀ s : State, (∀ p ∈ s.inputs, p.clean = true) → ∀ n, SafeRun n s

/-- R53 and R57 (Corner cases), law W5. -/
def Obligations.CarryClearAdcIsAddAndSbcIsSub : Prop :=
  ∀ (s : State) (r : Reg) (n : Byte), s.flags.carry = false →
    exec (accRegInstr .adc r) s = exec (accRegInstr .add r) s ∧
    exec (accImmInstr .adc n) s = exec (accImmInstr .add n) s ∧
    exec (accRegInstr .sbc r) s = exec (accRegInstr .sub r) s ∧
    exec (accImmInstr .sbc n) s = exec (accImmInstr .sub n) s

/-- R32, law W6 (which leaves source A aside; it holds there too). -/
def Obligations.ImmediateFormActsAsRegisterHoldingIt : Prop :=
  ∀ (op : AluOp) (r : Reg) (s : State), exec (accImmInstr op (s.read r)) s = exec (accRegInstr op r) s

/-- R68, R69, laws W7 and W8. -/
def Obligations.IncAndDecUndoEachOther : Prop :=
  ∀ (r : Reg) (s : State),
    (∃ t u, exec (incInstr r) s = .next t ∧ exec (decInstr r) t = .next u ∧ u.regs = s.regs ∧
      u.flags.carry = s.flags.carry) ∧
    (∃ t u, exec (decInstr r) s = .next t ∧ exec (incInstr r) t = .next u ∧ u.regs = s.regs ∧
      u.flags.carry = s.flags.carry)

/-- R71 and R72 (Corner cases), law W9; conflict C2 corrects the source's bit 7 (log entry 15). That RLC and RRC are the circular rotations is decision D19 (log entry 9). -/
def Obligations.EightCircularRotationsRestoreTheRegister : Prop :=
  ∀ (r : Reg) (s : State),
    (∃ t, Claims.repeated 8 (shiftInstr .rlc r) s = some t ∧ t.regs = s.regs ∧
      t.flags.carry = (s.read r).getLsbD 0) ∧
    (∃ t, Claims.repeated 8 (shiftInstr .rrc r) s = some t ∧ t.regs = s.regs ∧
      t.flags.carry = (s.read r).getLsbD 7)

/-- R72 and R74 (Corner cases), laws W10 and W11. Which rotation each name means is decision D19 (log entry 9). -/
def Obligations.RotationsUndoEachOther : Prop :=
  ∀ (r : Reg) (s : State),
    (∃ t u, exec (shiftInstr .rl r) s = .next t ∧ exec (shiftInstr .rr r) t = .next u ∧ u.regs = s.regs ∧
      u.flags.carry = s.flags.carry) ∧
    (∃ t u, exec (shiftInstr .rr r) s = .next t ∧ exec (shiftInstr .rl r) t = .next u ∧ u.regs = s.regs ∧
      u.flags.carry = s.flags.carry) ∧
    (∃ t u, exec (shiftInstr .rlc r) s = .next t ∧ exec (shiftInstr .rrc r) t = .next u ∧ u.regs = s.regs) ∧
    (∃ t u, exec (shiftInstr .rrc r) s = .next t ∧ exec (shiftInstr .rlc r) t = .next u ∧ u.regs = s.regs)

/-- R48 (its last sentence) and the table of U3: the model keeps the wrapping pre-adjust and does not "fix" it. -/
def Obligations.CarryPreAdjustAgainstThreeInputArithmetic : Prop :=
  ∀ (r : Reg) (s : State),
    let x := (s.read .a).toNat
    let y := (s.read r).toNat
    let c := s.flags.carry.toNat
    (∃ t, exec (accRegInstr .adc r) s = .next t ∧ (t.read .a).toNat = (x + y + c) % 256 ∧
      FlagsAre t (decide ((x + y + c) % 256 = 0)) false
        (Bool.xor (decide (x % 16 + y % 16 + c > 15)) (decide (c = 1 ∧ y % 16 = 15)))
        (Bool.xor (decide (x + y + c > 255)) (decide (c = 1 ∧ y = 255)))) ∧
    (∃ t, exec (accRegInstr .sbc r) s = .next t ∧ ((t.read .a).toNat : Int) = ((x : Int) - y - c) % 256 ∧
      FlagsAre t (decide (((x : Int) - y - c) % 256 = 0)) true
        (Bool.xor (decide (x % 16 < y % 16 + c)) (decide (c = 1 ∧ y % 16 = 15)))
        (Bool.xor (decide (x < y + c)) (decide (c = 1 ∧ y = 255))))

/-- R47: the five operation functions, INC and DEC as their use with the right operand fixed at 1, and the overflow of ADD and SUB as no error but the Carry flag. -/
def Obligations.OperationFunctionsWrapWithoutError : Prop :=
  (∀ x y : Byte,
    (add8 x y).1.toNat = (x.toNat + y.toNat) % 256 ∧ ((add8 x y).2 = true ↔ x.toNat + y.toNat ≥ 256) ∧
    ((sub8 x y).1.toNat : Int) = ((x.toNat : Int) - (y.toNat : Int)) % 256 ∧ ((sub8 x y).2 = true ↔ x.toNat < y.toNat) ∧
    (∀ i, (and8 x y).1.getLsbD i = (x.getLsbD i && y.getLsbD i)) ∧ (and8 x y).2 = false ∧
    (∀ i, (or8 x y).1.getLsbD i = (x.getLsbD i || y.getLsbD i)) ∧ (or8 x y).2 = false ∧
    (∀ i, (xor8 x y).1.getLsbD i = Bool.xor (x.getLsbD i) (y.getLsbD i)) ∧ (xor8 x y).2 = false) ∧
  ∀ (r : Reg) (s : State),
    (∃ t, exec (incInstr r) s = .next t ∧ (t.read r, t.flags) = aluApply add8 (s.read r) 1 .increment s.flags) ∧
    (∃ t, exec (decInstr r) s = .next t ∧ (t.read r, t.flags) = aluApply sub8 (s.read r) 1 .decrement s.flags) ∧
    (∃ t, exec (accRegInstr .add r) s = .next t ∧ t.flags.carry = (add8 (s.read .a) (s.read r)).2) ∧
    (∃ t, exec (accRegInstr .sub r) s = .next t ∧ t.flags.carry = (sub8 (s.read .a) (s.read r)).2)
end

