-- ==== Sys2Proof/Laws/Flags.lean ====
section
/-! SUPPORT. Flags: the flag table's rows as rewrite lemmas, and what every row has in common. -/

namespace Sys2Proof.Machine

variable (x y r : Byte) (ov : Bool) (old : FlagSet)

@[simp] theorem flagApply_add : flagApply .add x y r ov old =
    ⟨r == 0#8, false, decide (lowNibble x + lowNibble y > 15), ov⟩ := rfl
@[simp] theorem flagApply_subtract : flagApply .subtract x y r ov old =
    ⟨r == 0#8, true, decide (lowNibble x < lowNibble y), ov⟩ := rfl
@[simp] theorem flagApply_compare : flagApply .compare x y r ov old = flagApply .subtract x y r ov old := rfl
@[simp] theorem flagApply_increment : flagApply .increment x y r ov old =
    ⟨r == 0#8, false, decide (lowNibble x + 1 > 15), old.carry⟩ := rfl
@[simp] theorem flagApply_decrement : flagApply .decrement x y r ov old =
    ⟨r == 0#8, false, decide (lowNibble x < 1), old.carry⟩ := rfl
@[simp] theorem flagApply_and : flagApply .and x y r ov old = ⟨r == 0#8, false, true, false⟩ := rfl
@[simp] theorem flagApply_or : flagApply .or x y r ov old = ⟨r == 0#8, false, false, false⟩ := rfl
@[simp] theorem flagApply_xor : flagApply .xor x y r ov old = ⟨r == 0#8, false, false, false⟩ := rfl
@[simp] theorem flagApply_shift : flagApply .shift x y r ov old = ⟨r == 0#8, false, false, ov⟩ := rfl

/-- Every classifier writes Zero from the result (R38). -/
theorem flagApply_zero (cls : Classifier) : (flagApply cls x y r ov old).zero = (r == 0#8) := by
  cases cls <;> rfl

/-- The old flags reach the new ones through Carry alone (R38). -/
theorem flagApply_old_carry (cls : Classifier) (old' : FlagSet) (h : old'.carry = old.carry) :
    flagApply cls x y r ov old' = flagApply cls x y r ov old := by
  cases cls <;> simp [h]

/-- The three half-carry tests on the low nibbles, as tests on numbers. -/
theorem halfCarry_add : decide (lowNibble x + lowNibble y > 15) = decide (x.toNat % 16 + y.toNat % 16 > 15) := rfl
theorem halfCarry_sub : decide (lowNibble x < lowNibble y) = decide (x.toNat % 16 < y.toNat % 16) := rfl
theorem halfCarry_inc : decide (lowNibble x + 1 > 15) = decide (x.toNat % 16 = 15) :=
  decide_eq_decide.2 (by simp only [lowNibble]; omega)
theorem halfCarry_dec : decide (lowNibble x < 1) = decide (x.toNat % 16 = 0) :=
  decide_eq_decide.2 (by simp only [lowNibble]; omega)

/-- The low nibble is below 16. -/
theorem lowNibble_lt : lowNibble x < 16 := Nat.mod_lt _ (by decide)

end Sys2Proof.Machine
end

