-- ==== Sys2Proof/Laws/State.lean ====
section
/-! SUPPORT. State: one lemma per field per update of State, and the laws of the Register File. -/

namespace Sys2Proof.Machine

@[simp] theorem State.complete_regs (s : State) (r : RegFile) (f : FlagSet) : (s.complete r f).regs = r := rfl
@[simp] theorem State.complete_flags (s : State) (r : RegFile) (f : FlagSet) : (s.complete r f).flags = f := rfl
@[simp] theorem State.complete_inputs (s : State) (r : RegFile) (f : FlagSet) :
    (s.complete r f).inputs = s.inputs := rfl
@[simp] theorem State.complete_diag (s : State) (r : RegFile) (f : FlagSet) : (s.complete r f).diag = none := rfl
@[simp] theorem State.complete_read (s : State) (r : RegFile) (f : FlagSet) (q : Reg) :
    (s.complete r f).read q = r.read q := rfl

@[simp] theorem State.withTransaction_regs (s : State) (t : Transaction) : (s.withTransaction t).regs = s.regs := rfl
@[simp] theorem State.withTransaction_flags (s : State) (t : Transaction) :
    (s.withTransaction t).flags = s.flags := rfl
@[simp] theorem State.withTransaction_inputs (s : State) (t : Transaction) :
    (s.withTransaction t).inputs = startPorts t :: s.inputs := rfl
@[simp] theorem State.withTransaction_diag (s : State) (t : Transaction) : (s.withTransaction t).diag = s.diag := rfl

@[simp] theorem startPorts_reset (t : Transaction) : (startPorts t).reset = false := rfl
@[simp] theorem startPorts_start (t : Transaction) : (startPorts t).start = true := rfl
@[simp] theorem startPorts_transaction (t : Transaction) : (startPorts t).transaction = t := rfl

@[simp] theorem State.reset_inputs : State.reset.inputs = [] := rfl
@[simp] theorem State.reset_diag : State.reset.diag = none := rfl

/-- A read after a write of the same register gives the value written (R6). -/
@[simp] theorem RegFile.read_write_same (f : RegFile) (r : Reg) (v : Byte) : (f.write r v).read r = v := by
  cases r <;> rfl

/-- What a state reads from a register that was the one written. -/
theorem State.read_of_write {s t : State} {r : Reg} {v : Byte} (h : t.regs = s.regs.write r v) : t.read r = v := by
  rw [State.read, h, RegFile.read_write_same]

/-- Writing one register never changes another (R5). -/
theorem RegFile.read_write_other (f : RegFile) {r q : Reg} (v : Byte) (h : q ≠ r) :
    (f.write r v).read q = f.read q := by
  cases r <;> cases q <;> first | rfl | exact absurd rfl h

/-- The later write of a register is the one that counts. -/
@[simp] theorem RegFile.write_write (f : RegFile) (r : Reg) (v w : Byte) : (f.write r v).write r w = f.write r w := by
  cases r <;> rfl

/-- Writing back what a register holds changes nothing. -/
@[simp] theorem RegFile.write_read (f : RegFile) (r : Reg) : f.write r (f.read r) = f := by
  cases r <;> rfl

/-- Two register files that read alike are equal: nothing but the seven registers is in them (R5). -/
theorem RegFile.eq_of_read (f g : RegFile) (h : ∀ r, f.read r = g.read r) : f = g := by
  cases f; cases g
  simp only [RegFile.mk.injEq]
  exact ⟨h .a, h .b, h .c, h .d, h .e, h .h, h .l⟩

end Sys2Proof.Machine
end

