-- ==== Sys2Proof/Laws/Alu.lean ====
section
/-! SUPPORT. Alu: the operation functions as arithmetic on numbers, and for each shared shape of an instruction one lemma
that says everything it does. -/

namespace Sys2Proof.Machine

/-- A byte is below 256. -/
theorem byte_lt (x : Byte) : x.toNat < 256 := x.isLt

@[simp] theorem add8_result (x y : Byte) : (add8 x y).1.toNat = (x.toNat + y.toNat) % 256 := by
  simp [add8]

@[simp] theorem add8_overflow (x y : Byte) : (add8 x y).2 = decide (x.toNat + y.toNat ≥ 256) := rfl

theorem sub8_result (x y : Byte) : ((sub8 x y).1.toNat : Int) = ((x.toNat : Int) - (y.toNat : Int)) % 256 := by
  simp [sub8, BitVec.toNat_ofInt]
  omega

@[simp] theorem sub8_overflow (x y : Byte) : (sub8 x y).2 = decide (x.toNat < y.toNat) := rfl

theorem carryAdjust_toNat (y : Byte) (s : State) :
    (carryAdjust y s).toNat = (y.toNat + s.flags.carry.toNat) % 256 := by
  simp [carryAdjust]

/-- With Carry false the pre-adjust does nothing (R53). -/
theorem carryAdjust_of_clear (y : Byte) (s : State) (h : s.flags.carry = false) : carryAdjust y s = y := by
  apply BitVec.eq_of_toNat_eq
  have hy := byte_lt y
  rw [carryAdjust_toNat, h, Bool.toNat_false]
  omega

/-- Zero of a result, as a number. -/
theorem beq_zero_iff (x : Byte) : (x == 0#8) = decide (x.toNat = 0) := by
  rw [Bool.eq_iff_iff, beq_iff_eq, decide_eq_true_iff, ← BitVec.toNat_inj]
  rfl

@[simp] theorem shift_left_result (v : Byte) (f : Bool) :
    (shift .left v f).1.toNat = 2 * v.toNat % 256 + f.toNat := by
  have hf := Bool.toNat_lt f
  simp only [shift, BitVec.toNat_ofNat]
  omega

@[simp] theorem shift_left_out (v : Byte) (f : Bool) : (shift .left v f).2 = v.getLsbD 7 := rfl

@[simp] theorem shift_right_result (v : Byte) (f : Bool) :
    (shift .right v f).1.toNat = v.toNat / 2 + 128 * f.toNat := by
  have hf := Bool.toNat_lt f
  have hv := byte_lt v
  simp only [shift, BitVec.toNat_ofNat]
  omega

@[simp] theorem shift_right_out (v : Byte) (f : Bool) : (shift .right v f).2 = v.getLsbD 0 := rfl

/-- Bit 7 as a number. -/
theorem bit7_toNat (v : Byte) : (v.getLsbD 7).toNat = v.toNat / 128 := by
  have hv := byte_lt v
  rw [BitVec.getLsbD, Nat.toNat_testBit]
  omega

/-- Bit 0 as a number. -/
theorem bit0_toNat (v : Byte) : (v.getLsbD 0).toNat = v.toNat % 2 := by
  rw [BitVec.getLsbD, Nat.toNat_testBit]
  omega

/-- A write to one register leaves the others. -/
theorem sameRegsBut_write (s : State) (r : Reg) (v : Byte) (f : FlagSet) :
    SameRegsBut [r] s (s.complete (s.regs.write r v) f) := by
  intro q hq
  exact RegFile.read_write_other _ _ (by simpa using hq)

/-- Everything `accumulate` does. -/
theorem accumulate_next (fn : Byte → Byte → Byte × Bool) (cls : Classifier) (y : Byte) (s : State) :
    ∃ t, accumulate fn cls y s = .next t ∧ t.regs = s.regs.write .a (fn (s.read .a) y).1 ∧
      t.flags = flagApply cls (s.read .a) y (fn (s.read .a) y).1 (fn (s.read .a) y).2 s.flags ∧
      SameRegsBut [.a] s t ∧ RaisedNothing s t :=
  ⟨_, rfl, rfl, rfl, sameRegsBut_write _ _ _ _, rfl, rfl⟩

/-- Everything `discard` does: the flags, and no register. -/
theorem discard_next (fn : Byte → Byte → Byte × Bool) (cls : Classifier) (y : Byte) (s : State) :
    ∃ t, discard fn cls y s = .next t ∧ t.regs = s.regs ∧
      t.flags = flagApply cls (s.read .a) y (fn (s.read .a) y).1 (fn (s.read .a) y).2 s.flags ∧
      RaisedNothing s t :=
  ⟨_, rfl, rfl, rfl, rfl, rfl⟩

/-- Everything `inPlace` does. -/
theorem inPlace_next (fn : Byte → Byte → Byte × Bool) (cls : Classifier) (r : Reg) (s : State) :
    ∃ t, inPlace fn cls r s = .next t ∧ t.regs = s.regs.write r (fn (s.read r) 1#8).1 ∧
      t.flags = flagApply cls (s.read r) 1#8 (fn (s.read r) 1#8).1 (fn (s.read r) 1#8).2 s.flags ∧
      SameRegsBut [r] s t ∧ RaisedNothing s t :=
  ⟨_, rfl, rfl, rfl, sameRegsBut_write _ _ _ _, rfl, rfl⟩

/-- Everything `shiftReg` does. -/
theorem shiftReg_next (op : ShiftOp) (r : Reg) (s : State) :
    ∃ t, shiftReg op r s = .next t ∧
      t.regs = s.regs.write r
        (shift (shiftDirection op) (s.read r) (fillBit op (s.read r) s.flags.carry)).1 ∧
      t.flags =
        ⟨(shift (shiftDirection op) (s.read r) (fillBit op (s.read r) s.flags.carry)).1 == 0#8, false, false,
          (shift (shiftDirection op) (s.read r) (fillBit op (s.read r) s.flags.carry)).2⟩ ∧
      SameRegsBut [r] s t ∧ RaisedNothing s t :=
  ⟨_, rfl, rfl, rfl, sameRegsBut_write _ _ _ _, rfl, rfl⟩

/-- Everything the one exceptional event does (R82). -/
theorem raiseUnrecognized_next (d : Diag) (s : State) :
    ∃ t, raiseUnrecognized d s = .next t ∧ t.regs = s.regs ∧ t.flags = s.flags ∧ t.inputs = s.inputs ∧
      t.diag = some d :=
  ⟨_, rfl, rfl, rfl, rfl, rfl⟩

end Sys2Proof.Machine
end

