-- ==== Sys2Proof/Laws/Config.lean ====
section
/-! SUPPORT. Config: the parameters of R4 agree with the types that hold them. -/

namespace Sys2Proof

/-- Every register is in the list of all, once. -/
theorem Reg.mem_all (r : Reg) : r ∈ Reg.all := by cases r <;> decide

theorem Reg.all_length : Reg.all.length = Config.nreg := rfl

theorem Reg.all_nodup : Reg.all.Nodup := by decide

theorem Classifier.mem_all (c : Classifier) : c ∈ Classifier.all := by cases c <;> decide

theorem Classifier.all_length : Classifier.all.length = Config.nclass := rfl

end Sys2Proof
end

