-- ==== Sys2Proof/Laws/Dispatch.lean ====
section
/-! SUPPORT. Dispatch: what `exec` does with an instruction named by its operation and operand, and what `decode` and
`step` reduce to. -/

namespace Sys2Proof.Machine

variable (r : Reg) (n : Byte) (s : State)

theorem exec_add_reg : exec (accRegInstr .add r) s = accumulate add8 .add (s.read r) s := by cases r <;> rfl
theorem exec_adc_reg : exec (accRegInstr .adc r) s = accumulate add8 .add (carryAdjust (s.read r) s) s := by
  cases r <;> rfl
theorem exec_sub_reg : exec (accRegInstr .sub r) s = accumulate sub8 .subtract (s.read r) s := by cases r <;> rfl
theorem exec_sbc_reg : exec (accRegInstr .sbc r) s = accumulate sub8 .subtract (carryAdjust (s.read r) s) s := by
  cases r <;> rfl
theorem exec_and_reg : exec (accRegInstr .and r) s = accumulate and8 .and (s.read r) s := by cases r <;> rfl
theorem exec_xor_reg : exec (accRegInstr .xor r) s = accumulate xor8 .xor (s.read r) s := by cases r <;> rfl
theorem exec_or_reg : exec (accRegInstr .or r) s = accumulate or8 .or (s.read r) s := by cases r <;> rfl
theorem exec_cp_reg : exec (accRegInstr .cp r) s = discard sub8 .compare (s.read r) s := by cases r <;> rfl

theorem exec_add_imm : exec (accImmInstr .add n) s = accumulate add8 .add n s := rfl
theorem exec_adc_imm : exec (accImmInstr .adc n) s = accumulate add8 .add (carryAdjust n s) s := rfl
theorem exec_sub_imm : exec (accImmInstr .sub n) s = accumulate sub8 .subtract n s := rfl
theorem exec_sbc_imm : exec (accImmInstr .sbc n) s = accumulate sub8 .subtract (carryAdjust n s) s := rfl
theorem exec_and_imm : exec (accImmInstr .and n) s = accumulate and8 .and n s := rfl
theorem exec_xor_imm : exec (accImmInstr .xor n) s = accumulate xor8 .xor n s := rfl
theorem exec_or_imm : exec (accImmInstr .or n) s = accumulate or8 .or n s := rfl
theorem exec_cp_imm : exec (accImmInstr .cp n) s = discard sub8 .compare n s := rfl

theorem exec_inc : exec (incInstr r) s = inPlace add8 .increment r s := by cases r <;> rfl
theorem exec_dec : exec (decInstr r) s = inPlace sub8 .decrement r s := by cases r <;> rfl
theorem exec_shift (op : ShiftOp) : exec (shiftInstr op r) s = shiftReg op r s := by
  cases op <;> cases r <;> rfl

/-- What an Extended entry selects is the shift it names, both through its instruction and behind the escape. -/
theorem runExtended_shift (op : ShiftOp) : runExtended (.shift op r) s = shiftReg op r s := by
  cases op <;> cases r <;> rfl

/-- PREFIX_CB with a recognized forwarded code. -/
theorem exec_prefixCb_some {s : State} {e : Byte} {op : ExtendedOp} (h : extendedMap e = some op) :
    exec (.prefixCb e) s = runExtended op s := by
  simp [exec, execPrefixCb, h]

/-- PREFIX_CB with an unrecognized forwarded code. -/
theorem exec_prefixCb_none {s : State} {e : Byte} (h : extendedMap e = none) :
    exec (.prefixCb e) s = raiseUnrecognized (.unrecognizedOpcode .extended e) s := by
  simp [exec, execPrefixCb, h]

theorem decode_primary_some {c o : Byte} {op : PrimaryOp} (h : primaryMap c = some op) :
    decode .primary c o = .ok (primaryInstr op o) := by simp [decode, h]

theorem decode_primary_none {c o : Byte} (h : primaryMap c = none) :
    decode .primary c o = .error (.unrecognizedOpcode .primary c) := by simp [decode, h]

theorem decode_extended_some {c o : Byte} {op : ShiftOp} {r : Reg} (h : extendedMap c = some (.shift op r)) :
    decode .extended c o = .ok (shiftInstr op r) := by simp [decode, h, extendedInstr]

theorem decode_extended_none {c o : Byte} (h : extendedMap c = none) :
    decode .extended c o = .error (.unrecognizedOpcode .extended c) := by simp [decode, h]

/-- A transaction performs what its lookup finds. -/
theorem transact_eq_perform (t : Transaction) (s : State) :
    transact t s = perform (decode t.entry t.opcode t.operand) s := by
  rcases t with ⟨entry, c, o⟩
  cases entry <;> rfl

/-- A step with nothing left to present. -/
theorem step_of_inputs_nil {s : State} (h : s.inputs = []) : step s = idle s := by
  simp [step, takeInput, h, present, quietPorts]

/-- A step presents the oldest port values. -/
theorem step_of_inputs_cons {s : State} {p : Ports} {rest : List Ports} (h : s.inputs = p :: rest) :
    step s = present p { s with inputs := rest } := by
  simp [step, takeInput, h]

end Sys2Proof.Machine
end

