-- ==== Sys2Proof/Laws/PerInstr.lean ====
section
/-! SUPPORT. PerInstr: the per-instruction family CanonicalEncoding, one lemma per constructor of Instr. -/

namespace Sys2Proof.Laws.CanonicalEncoding

/-- The encoder's transaction presents a recognized code and a canonical operand byte. -/
def Statement (i : Instr) : Prop := (encode i).wf = true

/-- A recognized code that consults its operand byte is canonical with any byte. -/
theorem wf_of_usesOperand (space : CodeSpace) (code operand : Byte) (hr : recognized space code = true)
    (hu : usesOperand space code = true) : (Transaction.mk space code operand).wf = true := by
  simp [Transaction.wf, Transaction.canonicalOperand, hr, hu]

theorem addAB : Statement .addAB := rfl
theorem addAC : Statement .addAC := rfl
theorem addAD : Statement .addAD := rfl
theorem addAE : Statement .addAE := rfl
theorem addAH : Statement .addAH := rfl
theorem addAL : Statement .addAL := rfl
theorem addAA : Statement .addAA := rfl
theorem adcAB : Statement .adcAB := rfl
theorem adcAC : Statement .adcAC := rfl
theorem adcAD : Statement .adcAD := rfl
theorem adcAE : Statement .adcAE := rfl
theorem adcAH : Statement .adcAH := rfl
theorem adcAL : Statement .adcAL := rfl
theorem adcAA : Statement .adcAA := rfl
theorem subAB : Statement .subAB := rfl
theorem subAC : Statement .subAC := rfl
theorem subAD : Statement .subAD := rfl
theorem subAE : Statement .subAE := rfl
theorem subAH : Statement .subAH := rfl
theorem subAL : Statement .subAL := rfl
theorem subAA : Statement .subAA := rfl
theorem sbcAB : Statement .sbcAB := rfl
theorem sbcAC : Statement .sbcAC := rfl
theorem sbcAD : Statement .sbcAD := rfl
theorem sbcAE : Statement .sbcAE := rfl
theorem sbcAH : Statement .sbcAH := rfl
theorem sbcAL : Statement .sbcAL := rfl
theorem sbcAA : Statement .sbcAA := rfl
theorem andAB : Statement .andAB := rfl
theorem andAC : Statement .andAC := rfl
theorem andAD : Statement .andAD := rfl
theorem andAE : Statement .andAE := rfl
theorem andAH : Statement .andAH := rfl
theorem andAL : Statement .andAL := rfl
theorem andAA : Statement .andAA := rfl
theorem xorAB : Statement .xorAB := rfl
theorem xorAC : Statement .xorAC := rfl
theorem xorAD : Statement .xorAD := rfl
theorem xorAE : Statement .xorAE := rfl
theorem xorAH : Statement .xorAH := rfl
theorem xorAL : Statement .xorAL := rfl
theorem xorAA : Statement .xorAA := rfl
theorem orAB : Statement .orAB := rfl
theorem orAC : Statement .orAC := rfl
theorem orAD : Statement .orAD := rfl
theorem orAE : Statement .orAE := rfl
theorem orAH : Statement .orAH := rfl
theorem orAL : Statement .orAL := rfl
theorem orAA : Statement .orAA := rfl
theorem cpAB : Statement .cpAB := rfl
theorem cpAC : Statement .cpAC := rfl
theorem cpAD : Statement .cpAD := rfl
theorem cpAE : Statement .cpAE := rfl
theorem cpAH : Statement .cpAH := rfl
theorem cpAL : Statement .cpAL := rfl
theorem cpAA : Statement .cpAA := rfl
theorem addAD8 (n : Byte) : Statement (.addAD8 n) := wf_of_usesOperand .primary 0xC6 n (by decide) (by decide)
theorem adcAD8 (n : Byte) : Statement (.adcAD8 n) := wf_of_usesOperand .primary 0xCE n (by decide) (by decide)
theorem subAD8 (n : Byte) : Statement (.subAD8 n) := wf_of_usesOperand .primary 0xD6 n (by decide) (by decide)
theorem sbcAD8 (n : Byte) : Statement (.sbcAD8 n) := wf_of_usesOperand .primary 0xDE n (by decide) (by decide)
theorem andAD8 (n : Byte) : Statement (.andAD8 n) := wf_of_usesOperand .primary 0xE6 n (by decide) (by decide)
theorem xorAD8 (n : Byte) : Statement (.xorAD8 n) := wf_of_usesOperand .primary 0xEE n (by decide) (by decide)
theorem orAD8 (n : Byte) : Statement (.orAD8 n) := wf_of_usesOperand .primary 0xF6 n (by decide) (by decide)
theorem cpAD8 (n : Byte) : Statement (.cpAD8 n) := wf_of_usesOperand .primary 0xFE n (by decide) (by decide)
theorem incB : Statement .incB := rfl
theorem incC : Statement .incC := rfl
theorem incD : Statement .incD := rfl
theorem incE : Statement .incE := rfl
theorem incH : Statement .incH := rfl
theorem incL : Statement .incL := rfl
theorem incA : Statement .incA := rfl
theorem decB : Statement .decB := rfl
theorem decC : Statement .decC := rfl
theorem decD : Statement .decD := rfl
theorem decE : Statement .decE := rfl
theorem decH : Statement .decH := rfl
theorem decL : Statement .decL := rfl
theorem decA : Statement .decA := rfl
theorem prefixCb (ext : Byte) : Statement (.prefixCb ext) := wf_of_usesOperand .primary 0xCB ext (by decide) (by decide)
theorem rlcB : Statement .rlcB := rfl
theorem rlcC : Statement .rlcC := rfl
theorem rlcD : Statement .rlcD := rfl
theorem rlcE : Statement .rlcE := rfl
theorem rlcH : Statement .rlcH := rfl
theorem rlcL : Statement .rlcL := rfl
theorem rlcA : Statement .rlcA := rfl
theorem rrcB : Statement .rrcB := rfl
theorem rrcC : Statement .rrcC := rfl
theorem rrcD : Statement .rrcD := rfl
theorem rrcE : Statement .rrcE := rfl
theorem rrcH : Statement .rrcH := rfl
theorem rrcL : Statement .rrcL := rfl
theorem rrcA : Statement .rrcA := rfl
theorem rlB : Statement .rlB := rfl
theorem rlC : Statement .rlC := rfl
theorem rlD : Statement .rlD := rfl
theorem rlE : Statement .rlE := rfl
theorem rlH : Statement .rlH := rfl
theorem rlL : Statement .rlL := rfl
theorem rlA : Statement .rlA := rfl
theorem rrB : Statement .rrB := rfl
theorem rrC : Statement .rrC := rfl
theorem rrD : Statement .rrD := rfl
theorem rrE : Statement .rrE := rfl
theorem rrH : Statement .rrH := rfl
theorem rrL : Statement .rrL := rfl
theorem rrA : Statement .rrA := rfl
theorem slaB : Statement .slaB := rfl
theorem slaC : Statement .slaC := rfl
theorem slaD : Statement .slaD := rfl
theorem slaE : Statement .slaE := rfl
theorem slaH : Statement .slaH := rfl
theorem slaL : Statement .slaL := rfl
theorem slaA : Statement .slaA := rfl
theorem sraB : Statement .sraB := rfl
theorem sraC : Statement .sraC := rfl
theorem sraD : Statement .sraD := rfl
theorem sraE : Statement .sraE := rfl
theorem sraH : Statement .sraH := rfl
theorem sraL : Statement .sraL := rfl
theorem sraA : Statement .sraA := rfl
theorem srlB : Statement .srlB := rfl
theorem srlC : Statement .srlC := rfl
theorem srlD : Statement .srlD := rfl
theorem srlE : Statement .srlE := rfl
theorem srlH : Statement .srlH := rfl
theorem srlL : Statement .srlL := rfl
theorem srlA : Statement .srlA := rfl

end Sys2Proof.Laws.CanonicalEncoding
end

