-- ==== Sys2Proof/Tests/Slice0.lean ====
section
/-! SUPPORT. Slice0: the model's own tests. Expected values are taken from the code tables of 30_encoding.md and the
vectors of 95_test_vectors.md; each test is one transaction or one step. After them, a witness for every statement that
has hypotheses. -/

namespace Sys2Proof.Tests

open Sys2Proof.Machine

/-- A state with the given registers A B C D E H L and flags Zero Subtract HalfCarry Carry. -/
def mk (a b c d e h l : Byte) (z s hc cy : Bool) : State :=
  ⟨⟨a, b, c, d, e, h, l⟩, ⟨z, s, hc, cy⟩, [], none⟩

/-- Registers, flags and diagnostic of a next state. -/
def ran : Result → Option (RegFile × FlagSet × Option Diag)
  | .next s => some (s.regs, s.flags, s.diag)
  | .fault _ => none
  | .refused _ => none

/-! Well-formed transactions: one that passes, and one that fails each check (R34, R33). -/

theorem test_wf_accepts : (Transaction.mk .primary 0xC6 0x55).wf = true := by decide
theorem test_wf_refuses_primary_D3 : (Transaction.mk .primary 0xD3 0x00).wf = false := by decide
theorem test_wf_refuses_primary_rsel_6 : (Transaction.mk .primary 0x86 0x00).wf = false := by decide
theorem test_wf_refuses_primary_inc_rsel_6 : (Transaction.mk .primary 0x34 0x00).wf = false := by decide
theorem test_wf_refuses_extended_rsel_6 : (Transaction.mk .extended 0x3E 0x00).wf = false := by decide
theorem test_wf_refuses_extended_sop_6 : (Transaction.mk .extended 0x30 0x00).wf = false := by decide
theorem test_wf_refuses_extended_above_3F : (Transaction.mk .extended 0x40 0x00).wf = false := by decide
theorem test_wf_refuses_ignored_operand : (Transaction.mk .primary 0x80 0x01).wf = false := by decide
theorem test_clean_refuses_unrecognized_forward : (Transaction.mk .primary 0xCB 0x30).clean = false := by decide

/-! Decoding: every row of the tables of R30 and R31. -/

theorem test_decode_add_reg :
    [0x80, 0x81, 0x82, 0x83, 0x84, 0x85, 0x87].map (fun c => decode .primary c 0x00) =
      [.ok .addAB, .ok .addAC, .ok .addAD, .ok .addAE, .ok .addAH, .ok .addAL, .ok .addAA] := by decide

theorem test_decode_adc_reg :
    [0x88, 0x89, 0x8A, 0x8B, 0x8C, 0x8D, 0x8F].map (fun c => decode .primary c 0x00) =
      [.ok .adcAB, .ok .adcAC, .ok .adcAD, .ok .adcAE, .ok .adcAH, .ok .adcAL, .ok .adcAA] := by decide

theorem test_decode_sub_reg :
    [0x90, 0x91, 0x92, 0x93, 0x94, 0x95, 0x97].map (fun c => decode .primary c 0x00) =
      [.ok .subAB, .ok .subAC, .ok .subAD, .ok .subAE, .ok .subAH, .ok .subAL, .ok .subAA] := by decide

theorem test_decode_sbc_reg :
    [0x98, 0x99, 0x9A, 0x9B, 0x9C, 0x9D, 0x9F].map (fun c => decode .primary c 0x00) =
      [.ok .sbcAB, .ok .sbcAC, .ok .sbcAD, .ok .sbcAE, .ok .sbcAH, .ok .sbcAL, .ok .sbcAA] := by decide

theorem test_decode_and_reg :
    [0xA0, 0xA1, 0xA2, 0xA3, 0xA4, 0xA5, 0xA7].map (fun c => decode .primary c 0x00) =
      [.ok .andAB, .ok .andAC, .ok .andAD, .ok .andAE, .ok .andAH, .ok .andAL, .ok .andAA] := by decide

theorem test_decode_xor_reg :
    [0xA8, 0xA9, 0xAA, 0xAB, 0xAC, 0xAD, 0xAF].map (fun c => decode .primary c 0x00) =
      [.ok .xorAB, .ok .xorAC, .ok .xorAD, .ok .xorAE, .ok .xorAH, .ok .xorAL, .ok .xorAA] := by decide

theorem test_decode_or_reg :
    [0xB0, 0xB1, 0xB2, 0xB3, 0xB4, 0xB5, 0xB7].map (fun c => decode .primary c 0x00) =
      [.ok .orAB, .ok .orAC, .ok .orAD, .ok .orAE, .ok .orAH, .ok .orAL, .ok .orAA] := by decide

theorem test_decode_cp_reg :
    [0xB8, 0xB9, 0xBA, 0xBB, 0xBC, 0xBD, 0xBF].map (fun c => decode .primary c 0x00) =
      [.ok .cpAB, .ok .cpAC, .ok .cpAD, .ok .cpAE, .ok .cpAH, .ok .cpAL, .ok .cpAA] := by decide

theorem test_decode_immediates :
    [0xC6, 0xCE, 0xD6, 0xDE, 0xE6, 0xEE, 0xF6, 0xFE].map (fun c => decode .primary c 0x5A) =
      [.ok (.addAD8 0x5A), .ok (.adcAD8 0x5A), .ok (.subAD8 0x5A), .ok (.sbcAD8 0x5A), .ok (.andAD8 0x5A), .ok (.xorAD8 0x5A), .ok (.orAD8 0x5A), .ok (.cpAD8 0x5A)] := by decide

theorem test_decode_inc :
    [0x04, 0x0C, 0x14, 0x1C, 0x24, 0x2C, 0x3C].map (fun c => decode .primary c 0x00) =
      [.ok .incB, .ok .incC, .ok .incD, .ok .incE, .ok .incH, .ok .incL, .ok .incA] := by decide

theorem test_decode_dec :
    [0x05, 0x0D, 0x15, 0x1D, 0x25, 0x2D, 0x3D].map (fun c => decode .primary c 0x00) =
      [.ok .decB, .ok .decC, .ok .decD, .ok .decE, .ok .decH, .ok .decL, .ok .decA] := by decide

theorem test_decode_escape :
    [0xCB].map (fun c => decode .primary c 0x10) =
      [.ok (.prefixCb 0x10)] := by decide

theorem test_decode_rlc :
    [0x00, 0x01, 0x02, 0x03, 0x04, 0x05, 0x07].map (fun c => decode .extended c 0x00) =
      [.ok .rlcB, .ok .rlcC, .ok .rlcD, .ok .rlcE, .ok .rlcH, .ok .rlcL, .ok .rlcA] := by decide

theorem test_decode_rrc :
    [0x08, 0x09, 0x0A, 0x0B, 0x0C, 0x0D, 0x0F].map (fun c => decode .extended c 0x00) =
      [.ok .rrcB, .ok .rrcC, .ok .rrcD, .ok .rrcE, .ok .rrcH, .ok .rrcL, .ok .rrcA] := by decide

theorem test_decode_rl :
    [0x10, 0x11, 0x12, 0x13, 0x14, 0x15, 0x17].map (fun c => decode .extended c 0x00) =
      [.ok .rlB, .ok .rlC, .ok .rlD, .ok .rlE, .ok .rlH, .ok .rlL, .ok .rlA] := by decide

theorem test_decode_rr :
    [0x18, 0x19, 0x1A, 0x1B, 0x1C, 0x1D, 0x1F].map (fun c => decode .extended c 0x00) =
      [.ok .rrB, .ok .rrC, .ok .rrD, .ok .rrE, .ok .rrH, .ok .rrL, .ok .rrA] := by decide

theorem test_decode_sla :
    [0x20, 0x21, 0x22, 0x23, 0x24, 0x25, 0x27].map (fun c => decode .extended c 0x00) =
      [.ok .slaB, .ok .slaC, .ok .slaD, .ok .slaE, .ok .slaH, .ok .slaL, .ok .slaA] := by decide

theorem test_decode_sra :
    [0x28, 0x29, 0x2A, 0x2B, 0x2C, 0x2D, 0x2F].map (fun c => decode .extended c 0x00) =
      [.ok .sraB, .ok .sraC, .ok .sraD, .ok .sraE, .ok .sraH, .ok .sraL, .ok .sraA] := by decide

theorem test_decode_srl :
    [0x38, 0x39, 0x3A, 0x3B, 0x3C, 0x3D, 0x3F].map (fun c => decode .extended c 0x00) =
      [.ok .srlB, .ok .srlC, .ok .srlD, .ok .srlE, .ok .srlH, .ok .srlL, .ok .srlA] := by decide

/-- R34: codes at the edges of the listed ranges, and the source's own example 0xD3. -/
theorem test_decode_rejects_primary :
    [0x00, 0x07, 0x34, 0x35, 0x76, 0x86, 0xC3, 0xD3, 0xFF].map (fun c => decode .primary c 0x00) =
      [0x00, 0x07, 0x34, 0x35, 0x76, 0x86, 0xC3, 0xD3, 0xFF].map
        (fun c => .error (.unrecognizedOpcode .primary c)) := by decide

theorem test_decode_rejects_extended :
    [0x06, 0x30, 0x37, 0x3E, 0x40, 0xCB, 0xFF].map (fun c => decode .extended c 0x00) =
      [0x06, 0x30, 0x37, 0x3E, 0x40, 0xCB, 0xFF].map
        (fun c => .error (.unrecognizedOpcode .extended c)) := by decide

/-- Log 10: a table word is looked up in the Primary space first, then in the Extended one. -/
theorem test_table_words :
    [0x80, 0xC6, 0xCB, 0x04, 0x00, 0x3F, 0xD3].map (decodeTableWord 8) =
      [some .addAB, some (.addAD8 0), some (.prefixCb 0), some .incB, some .rlcB, some .srlA, none] := by decide

theorem test_table_word_with_operand : decodeTableWord 16 0x10CB = some (.prefixCb 0x10) := by decide

/-! Transactions. -/

/-- V-ADD-1 of 95_test_vectors.md, ADD_A_B. -/
theorem test_add_1 :
    ran (transact ⟨.primary, 0x80, 0x00⟩ (mk 0x32 0xE6 0x00 0x00 0x00 0x00 0x00 false false false false)) =
      some (⟨0x18, 0xE6, 0x00, 0x00, 0x00, 0x00, 0x00⟩, ⟨false, false, false, true⟩, none) := by decide

/-- V-ADD-3 of 95_test_vectors.md, ADD_A_C. -/
theorem test_add_3 :
    ran (transact ⟨.primary, 0x81, 0x00⟩ (mk 0x0F 0x00 0x01 0x00 0x00 0x00 0x00 false false false false)) =
      some (⟨0x10, 0x00, 0x01, 0x00, 0x00, 0x00, 0x00⟩, ⟨false, false, true, false⟩, none) := by decide

/-- V-ADD-4 of 95_test_vectors.md, ADD_A_D. -/
theorem test_add_4 :
    ran (transact ⟨.primary, 0x82, 0x00⟩ (mk 0xFF 0x00 0x00 0x01 0x00 0x00 0x00 false false false false)) =
      some (⟨0x00, 0x00, 0x00, 0x01, 0x00, 0x00, 0x00⟩, ⟨true, false, true, true⟩, none) := by decide

/-- V-ADD-5 of 95_test_vectors.md, ADD_A_E. -/
theorem test_add_5 :
    ran (transact ⟨.primary, 0x83, 0x00⟩ (mk 0x80 0x00 0x00 0x00 0x80 0x00 0x00 false false false false)) =
      some (⟨0x00, 0x00, 0x00, 0x00, 0x80, 0x00, 0x00⟩, ⟨true, false, false, true⟩, none) := by decide

/-- V-ADD-6 of 95_test_vectors.md, ADD_A_H. -/
theorem test_add_6 :
    ran (transact ⟨.primary, 0x84, 0x00⟩ (mk 0x7F 0x00 0x00 0x00 0x00 0x01 0x00 false false false false)) =
      some (⟨0x80, 0x00, 0x00, 0x00, 0x00, 0x01, 0x00⟩, ⟨false, false, true, false⟩, none) := by decide

/-- V-ADD-7 of 95_test_vectors.md, ADD_A_L. -/
theorem test_add_7 :
    ran (transact ⟨.primary, 0x85, 0x00⟩ (mk 0xF0 0x00 0x00 0x00 0x00 0x00 0x0F false false false true)) =
      some (⟨0xFF, 0x00, 0x00, 0x00, 0x00, 0x00, 0x0F⟩, ⟨false, false, false, false⟩, none) := by decide

/-- V-ADD-8 of 95_test_vectors.md, ADD_A_A. -/
theorem test_add_8 :
    ran (transact ⟨.primary, 0x87, 0x00⟩ (mk 0x88 0x00 0x00 0x00 0x00 0x00 0x00 false false false false)) =
      some (⟨0x10, 0x00, 0x00, 0x00, 0x00, 0x00, 0x00⟩, ⟨false, false, true, true⟩, none) := by decide

/-- V-ADD-9 of 95_test_vectors.md, ADD_A_D8. -/
theorem test_add_9 :
    ran (transact ⟨.primary, 0xC6, 0xC4⟩ (mk 0x3C 0x00 0x00 0x00 0x00 0x00 0x00 false false false false)) =
      some (⟨0x00, 0x00, 0x00, 0x00, 0x00, 0x00, 0x00⟩, ⟨true, false, true, true⟩, none) := by decide

/-- V-ADC-1 of 95_test_vectors.md, ADC_A_B. -/
theorem test_adc_1 :
    ran (transact ⟨.primary, 0x88, 0x00⟩ (mk 0x10 0x20 0x00 0x00 0x00 0x00 0x00 false false false true)) =
      some (⟨0x31, 0x20, 0x00, 0x00, 0x00, 0x00, 0x00⟩, ⟨false, false, false, false⟩, none) := by decide

/-- V-ADC-3 of 95_test_vectors.md, ADC_A_D. -/
theorem test_adc_3 :
    ran (transact ⟨.primary, 0x8A, 0x00⟩ (mk 0x00 0x00 0x00 0xFF 0x00 0x00 0x00 false false false true)) =
      some (⟨0x00, 0x00, 0x00, 0xFF, 0x00, 0x00, 0x00⟩, ⟨true, false, false, false⟩, none) := by decide

/-- V-ADC-4 of 95_test_vectors.md, ADC_A_C. -/
theorem test_adc_4 :
    ran (transact ⟨.primary, 0x89, 0x00⟩ (mk 0x5A 0x00 0xFF 0x00 0x00 0x00 0x00 false false false true)) =
      some (⟨0x5A, 0x00, 0xFF, 0x00, 0x00, 0x00, 0x00⟩, ⟨false, false, false, false⟩, none) := by decide

/-- V-ADC-5 of 95_test_vectors.md, ADC_A_E. -/
theorem test_adc_5 :
    ran (transact ⟨.primary, 0x8B, 0x00⟩ (mk 0xF0 0x00 0x00 0x00 0x0F 0x00 0x00 false false false true)) =
      some (⟨0x00, 0x00, 0x00, 0x00, 0x0F, 0x00, 0x00⟩, ⟨true, false, false, true⟩, none) := by decide

/-- V-ADC-6 of 95_test_vectors.md, ADC_A_H. -/
theorem test_adc_6 :
    ran (transact ⟨.primary, 0x8C, 0x00⟩ (mk 0x0F 0x00 0x00 0x00 0x00 0x00 0x00 false false false true)) =
      some (⟨0x10, 0x00, 0x00, 0x00, 0x00, 0x00, 0x00⟩, ⟨false, false, true, false⟩, none) := by decide

/-- V-ADC-7 of 95_test_vectors.md, ADC_A_L. -/
theorem test_adc_7 :
    ran (transact ⟨.primary, 0x8D, 0x00⟩ (mk 0xFF 0x00 0x00 0x00 0x00 0x00 0x00 false false false true)) =
      some (⟨0x00, 0x00, 0x00, 0x00, 0x00, 0x00, 0x00⟩, ⟨true, false, true, true⟩, none) := by decide

/-- V-ADC-10 of 95_test_vectors.md, ADC_A_A. -/
theorem test_adc_10 :
    ran (transact ⟨.primary, 0x8F, 0x00⟩ (mk 0xFF 0x00 0x00 0x00 0x00 0x00 0x00 false false false true)) =
      some (⟨0xFF, 0x00, 0x00, 0x00, 0x00, 0x00, 0x00⟩, ⟨false, false, false, false⟩, none) := by decide

/-- V-ADC-12 of 95_test_vectors.md, ADC_A_D8. -/
theorem test_adc_12 :
    ran (transact ⟨.primary, 0xCE, 0xFF⟩ (mk 0x01 0x00 0x00 0x00 0x00 0x00 0x00 false false false true)) =
      some (⟨0x01, 0x00, 0x00, 0x00, 0x00, 0x00, 0x00⟩, ⟨false, false, false, false⟩, none) := by decide

/-- V-SUB-1 of 95_test_vectors.md, SUB_A_B. -/
theorem test_sub_1 :
    ran (transact ⟨.primary, 0x90, 0x00⟩ (mk 0x10 0x08 0x00 0x00 0x00 0x00 0x00 false false false false)) =
      some (⟨0x08, 0x08, 0x00, 0x00, 0x00, 0x00, 0x00⟩, ⟨false, true, true, false⟩, none) := by decide

/-- V-SUB-2 of 95_test_vectors.md, SUB_A_C. -/
theorem test_sub_2 :
    ran (transact ⟨.primary, 0x91, 0x00⟩ (mk 0x00 0x00 0x01 0x00 0x00 0x00 0x00 false false false false)) =
      some (⟨0xFF, 0x00, 0x01, 0x00, 0x00, 0x00, 0x00⟩, ⟨false, true, true, true⟩, none) := by decide

/-- V-SUB-3 of 95_test_vectors.md, SUB_A_D. -/
theorem test_sub_3 :
    ran (transact ⟨.primary, 0x92, 0x00⟩ (mk 0x3E 0x00 0x00 0x3E 0x00 0x00 0x00 false false false true)) =
      some (⟨0x00, 0x00, 0x00, 0x3E, 0x00, 0x00, 0x00⟩, ⟨true, true, false, false⟩, none) := by decide

/-- V-SUB-4 of 95_test_vectors.md, SUB_A_E. -/
theorem test_sub_4 :
    ran (transact ⟨.primary, 0x93, 0x00⟩ (mk 0x3E 0x00 0x00 0x00 0x0F 0x00 0x00 false false false false)) =
      some (⟨0x2F, 0x00, 0x00, 0x00, 0x0F, 0x00, 0x00⟩, ⟨false, true, true, false⟩, none) := by decide

/-- V-SUB-5 of 95_test_vectors.md, SUB_A_H. -/
theorem test_sub_5 :
    ran (transact ⟨.primary, 0x94, 0x00⟩ (mk 0x3E 0x00 0x00 0x00 0x00 0x40 0x00 false false false false)) =
      some (⟨0xFE, 0x00, 0x00, 0x00, 0x00, 0x40, 0x00⟩, ⟨false, true, false, true⟩, none) := by decide

/-- V-SUB-6 of 95_test_vectors.md, SUB_A_L. -/
theorem test_sub_6 :
    ran (transact ⟨.primary, 0x95, 0x00⟩ (mk 0x80 0x00 0x00 0x00 0x00 0x00 0x01 false false false false)) =
      some (⟨0x7F, 0x00, 0x00, 0x00, 0x00, 0x00, 0x01⟩, ⟨false, true, true, false⟩, none) := by decide

/-- V-SUB-7 of 95_test_vectors.md, SUB_A_A. -/
theorem test_sub_7 :
    ran (transact ⟨.primary, 0x97, 0x00⟩ (mk 0x5A 0x00 0x00 0x00 0x00 0x00 0x00 false false false false)) =
      some (⟨0x00, 0x00, 0x00, 0x00, 0x00, 0x00, 0x00⟩, ⟨true, true, false, false⟩, none) := by decide

/-- V-SUB-8 of 95_test_vectors.md, SUB_A_D8. -/
theorem test_sub_8 :
    ran (transact ⟨.primary, 0xD6, 0x20⟩ (mk 0x10 0x00 0x00 0x00 0x00 0x00 0x00 false false false false)) =
      some (⟨0xF0, 0x00, 0x00, 0x00, 0x00, 0x00, 0x00⟩, ⟨false, true, false, true⟩, none) := by decide

/-- V-SBC-1 of 95_test_vectors.md, SBC_A_B. -/
theorem test_sbc_1 :
    ran (transact ⟨.primary, 0x98, 0x00⟩ (mk 0x10 0x01 0x00 0x00 0x00 0x00 0x00 false false false true)) =
      some (⟨0x0E, 0x01, 0x00, 0x00, 0x00, 0x00, 0x00⟩, ⟨false, true, true, false⟩, none) := by decide

/-- V-SBC-2 of 95_test_vectors.md, SBC_A_C. -/
theorem test_sbc_2 :
    ran (transact ⟨.primary, 0x99, 0x00⟩ (mk 0x00 0x00 0x00 0x00 0x00 0x00 0x00 false false false true)) =
      some (⟨0xFF, 0x00, 0x00, 0x00, 0x00, 0x00, 0x00⟩, ⟨false, true, true, true⟩, none) := by decide

/-- V-SBC-3 of 95_test_vectors.md, SBC_A_D. -/
theorem test_sbc_3 :
    ran (transact ⟨.primary, 0x9A, 0x00⟩ (mk 0x10 0x00 0x00 0x0F 0x00 0x00 0x00 false false false true)) =
      some (⟨0x00, 0x00, 0x00, 0x0F, 0x00, 0x00, 0x00⟩, ⟨true, true, false, false⟩, none) := by decide

/-- V-SBC-5 of 95_test_vectors.md, SBC_A_E. -/
theorem test_sbc_5 :
    ran (transact ⟨.primary, 0x9B, 0x00⟩ (mk 0x05 0x00 0x00 0x00 0xFF 0x00 0x00 false false false true)) =
      some (⟨0x05, 0x00, 0x00, 0x00, 0xFF, 0x00, 0x00⟩, ⟨false, true, false, false⟩, none) := by decide

/-- V-SBC-6 of 95_test_vectors.md, SBC_A_H. -/
theorem test_sbc_6 :
    ran (transact ⟨.primary, 0x9C, 0x00⟩ (mk 0x00 0x00 0x00 0x00 0x00 0xFF 0x00 false false false true)) =
      some (⟨0x00, 0x00, 0x00, 0x00, 0x00, 0xFF, 0x00⟩, ⟨true, true, false, false⟩, none) := by decide

/-- V-SBC-8 of 95_test_vectors.md, SBC_A_A. -/
theorem test_sbc_8 :
    ran (transact ⟨.primary, 0x9F, 0x00⟩ (mk 0xFF 0x00 0x00 0x00 0x00 0x00 0x00 false false false true)) =
      some (⟨0xFF, 0x00, 0x00, 0x00, 0x00, 0x00, 0x00⟩, ⟨false, true, false, false⟩, none) := by decide

/-- V-SBC-11 of 95_test_vectors.md, SBC_A_D8. -/
theorem test_sbc_11 :
    ran (transact ⟨.primary, 0xDE, 0xFF⟩ (mk 0x05 0x00 0x00 0x00 0x00 0x00 0x00 false false false true)) =
      some (⟨0x05, 0x00, 0x00, 0x00, 0x00, 0x00, 0x00⟩, ⟨false, true, false, false⟩, none) := by decide

/-- V-CP-1 of 95_test_vectors.md, CP_A_B. -/
theorem test_cp_1 :
    ran (transact ⟨.primary, 0xB8, 0x00⟩ (mk 0x3C 0x2F 0x00 0x00 0x00 0x00 0x00 false false false false)) =
      some (⟨0x3C, 0x2F, 0x00, 0x00, 0x00, 0x00, 0x00⟩, ⟨false, true, true, false⟩, none) := by decide

/-- V-CP-2 of 95_test_vectors.md, CP_A_C. -/
theorem test_cp_2 :
    ran (transact ⟨.primary, 0xB9, 0x00⟩ (mk 0x3C 0x00 0x3C 0x00 0x00 0x00 0x00 false false false true)) =
      some (⟨0x3C, 0x00, 0x3C, 0x00, 0x00, 0x00, 0x00⟩, ⟨true, true, false, false⟩, none) := by decide

/-- V-CP-3 of 95_test_vectors.md, CP_A_D. -/
theorem test_cp_3 :
    ran (transact ⟨.primary, 0xBA, 0x00⟩ (mk 0x3C 0x00 0x00 0x40 0x00 0x00 0x00 false false false false)) =
      some (⟨0x3C, 0x00, 0x00, 0x40, 0x00, 0x00, 0x00⟩, ⟨false, true, false, true⟩, none) := by decide

/-- V-CP-4 of 95_test_vectors.md, CP_A_L. -/
theorem test_cp_4 :
    ran (transact ⟨.primary, 0xBD, 0x00⟩ (mk 0x00 0x00 0x00 0x00 0x00 0x00 0xFF false false false false)) =
      some (⟨0x00, 0x00, 0x00, 0x00, 0x00, 0x00, 0xFF⟩, ⟨false, true, true, true⟩, none) := by decide

/-- V-CP-5 of 95_test_vectors.md, CP_A_A. -/
theorem test_cp_5 :
    ran (transact ⟨.primary, 0xBF, 0x00⟩ (mk 0x9C 0x00 0x00 0x00 0x00 0x00 0x00 false false false false)) =
      some (⟨0x9C, 0x00, 0x00, 0x00, 0x00, 0x00, 0x00⟩, ⟨true, true, false, false⟩, none) := by decide

/-- V-CP-6 of 95_test_vectors.md, CP_A_D8. -/
theorem test_cp_6 :
    ran (transact ⟨.primary, 0xFE, 0x01⟩ (mk 0x00 0x00 0x00 0x00 0x00 0x00 0x00 false false false false)) =
      some (⟨0x00, 0x00, 0x00, 0x00, 0x00, 0x00, 0x00⟩, ⟨false, true, true, true⟩, none) := by decide

/-- V-AND-1 of 95_test_vectors.md, AND_A_B. -/
theorem test_and_1 :
    ran (transact ⟨.primary, 0xA0, 0x00⟩ (mk 0x06 0x02 0x00 0x00 0x00 0x00 0x00 false false false false)) =
      some (⟨0x02, 0x02, 0x00, 0x00, 0x00, 0x00, 0x00⟩, ⟨false, false, true, false⟩, none) := by decide

/-- V-AND-2 of 95_test_vectors.md, AND_A_C. -/
theorem test_and_2 :
    ran (transact ⟨.primary, 0xA1, 0x00⟩ (mk 0xF0 0x00 0x0F 0x00 0x00 0x00 0x00 false false false true)) =
      some (⟨0x00, 0x00, 0x0F, 0x00, 0x00, 0x00, 0x00⟩, ⟨true, false, true, false⟩, none) := by decide

/-- V-AND-3 of 95_test_vectors.md, AND_A_E. -/
theorem test_and_3 :
    ran (transact ⟨.primary, 0xA3, 0x00⟩ (mk 0xFF 0x00 0x00 0x00 0xFF 0x00 0x00 false false false false)) =
      some (⟨0xFF, 0x00, 0x00, 0x00, 0xFF, 0x00, 0x00⟩, ⟨false, false, true, false⟩, none) := by decide

/-- V-AND-4 of 95_test_vectors.md, AND_A_A. -/
theorem test_and_4 :
    ran (transact ⟨.primary, 0xA7, 0x00⟩ (mk 0x00 0x00 0x00 0x00 0x00 0x00 0x00 false false false false)) =
      some (⟨0x00, 0x00, 0x00, 0x00, 0x00, 0x00, 0x00⟩, ⟨true, false, true, false⟩, none) := by decide

/-- V-AND-5 of 95_test_vectors.md, AND_A_D8. -/
theorem test_and_5 :
    ran (transact ⟨.primary, 0xE6, 0x38⟩ (mk 0x5A 0x00 0x00 0x00 0x00 0x00 0x00 false false false false)) =
      some (⟨0x18, 0x00, 0x00, 0x00, 0x00, 0x00, 0x00⟩, ⟨false, false, true, false⟩, none) := by decide

/-- V-XOR-1 of 95_test_vectors.md, XOR_A_B. -/
theorem test_xor_1 :
    ran (transact ⟨.primary, 0xA8, 0x00⟩ (mk 0xFF 0x0F 0x00 0x00 0x00 0x00 0x00 false false false true)) =
      some (⟨0xF0, 0x0F, 0x00, 0x00, 0x00, 0x00, 0x00⟩, ⟨false, false, false, false⟩, none) := by decide

/-- V-XOR-2 of 95_test_vectors.md, XOR_A_A. -/
theorem test_xor_2 :
    ran (transact ⟨.primary, 0xAF, 0x00⟩ (mk 0x5A 0x00 0x00 0x00 0x00 0x00 0x00 false false false false)) =
      some (⟨0x00, 0x00, 0x00, 0x00, 0x00, 0x00, 0x00⟩, ⟨true, false, false, false⟩, none) := by decide

/-- V-XOR-3 of 95_test_vectors.md, XOR_A_H. -/
theorem test_xor_3 :
    ran (transact ⟨.primary, 0xAC, 0x00⟩ (mk 0x3C 0x00 0x00 0x00 0x00 0x3C 0x00 false false false false)) =
      some (⟨0x00, 0x00, 0x00, 0x00, 0x00, 0x3C, 0x00⟩, ⟨true, false, false, false⟩, none) := by decide

/-- V-XOR-4 of 95_test_vectors.md, XOR_A_D8. -/
theorem test_xor_4 :
    ran (transact ⟨.primary, 0xEE, 0xFF⟩ (mk 0x5A 0x00 0x00 0x00 0x00 0x00 0x00 false false false false)) =
      some (⟨0xA5, 0x00, 0x00, 0x00, 0x00, 0x00, 0x00⟩, ⟨false, false, false, false⟩, none) := by decide

/-- V-OR-1 of 95_test_vectors.md, OR_A_B. -/
theorem test_or_1 :
    ran (transact ⟨.primary, 0xB0, 0x00⟩ (mk 0x5A 0x03 0x00 0x00 0x00 0x00 0x00 false false false true)) =
      some (⟨0x5B, 0x03, 0x00, 0x00, 0x00, 0x00, 0x00⟩, ⟨false, false, false, false⟩, none) := by decide

/-- V-OR-2 of 95_test_vectors.md, OR_A_D. -/
theorem test_or_2 :
    ran (transact ⟨.primary, 0xB2, 0x00⟩ (mk 0x00 0x00 0x00 0x00 0x00 0x00 0x00 false false false false)) =
      some (⟨0x00, 0x00, 0x00, 0x00, 0x00, 0x00, 0x00⟩, ⟨true, false, false, false⟩, none) := by decide

/-- V-OR-3 of 95_test_vectors.md, OR_A_A. -/
theorem test_or_3 :
    ran (transact ⟨.primary, 0xB7, 0x00⟩ (mk 0x80 0x00 0x00 0x00 0x00 0x00 0x00 false false false false)) =
      some (⟨0x80, 0x00, 0x00, 0x00, 0x00, 0x00, 0x00⟩, ⟨false, false, false, false⟩, none) := by decide

/-- V-OR-4 of 95_test_vectors.md, OR_A_D8. -/
theorem test_or_4 :
    ran (transact ⟨.primary, 0xF6, 0x0A⟩ (mk 0x50 0x00 0x00 0x00 0x00 0x00 0x00 false false false false)) =
      some (⟨0x5A, 0x00, 0x00, 0x00, 0x00, 0x00, 0x00⟩, ⟨false, false, false, false⟩, none) := by decide

/-- V-INC-1 of 95_test_vectors.md, INC_B. -/
theorem test_inc_1 :
    ran (transact ⟨.primary, 0x04, 0x00⟩ (mk 0x00 0x00 0x00 0x00 0x00 0x00 0x00 false false false false)) =
      some (⟨0x00, 0x01, 0x00, 0x00, 0x00, 0x00, 0x00⟩, ⟨false, false, false, false⟩, none) := by decide

/-- V-INC-2 of 95_test_vectors.md, INC_C. -/
theorem test_inc_2 :
    ran (transact ⟨.primary, 0x0C, 0x00⟩ (mk 0x00 0x00 0xFF 0x00 0x00 0x00 0x00 false false false true)) =
      some (⟨0x00, 0x00, 0x00, 0x00, 0x00, 0x00, 0x00⟩, ⟨true, false, true, true⟩, none) := by decide

/-- V-INC-4 of 95_test_vectors.md, INC_D. -/
theorem test_inc_4 :
    ran (transact ⟨.primary, 0x14, 0x00⟩ (mk 0x00 0x00 0x00 0x0F 0x00 0x00 0x00 false false false false)) =
      some (⟨0x00, 0x00, 0x00, 0x10, 0x00, 0x00, 0x00⟩, ⟨false, false, true, false⟩, none) := by decide

/-- V-INC-5 of 95_test_vectors.md, INC_E. -/
theorem test_inc_5 :
    ran (transact ⟨.primary, 0x1C, 0x00⟩ (mk 0x00 0x00 0x00 0x00 0x7F 0x00 0x00 false false false true)) =
      some (⟨0x00, 0x00, 0x00, 0x00, 0x80, 0x00, 0x00⟩, ⟨false, false, true, true⟩, none) := by decide

/-- V-INC-6 of 95_test_vectors.md, INC_H. -/
theorem test_inc_6 :
    ran (transact ⟨.primary, 0x24, 0x00⟩ (mk 0x00 0x00 0x00 0x00 0x00 0x10 0x00 false false false false)) =
      some (⟨0x00, 0x00, 0x00, 0x00, 0x00, 0x11, 0x00⟩, ⟨false, false, false, false⟩, none) := by decide

/-- V-INC-7 of 95_test_vectors.md, INC_L. -/
theorem test_inc_7 :
    ran (transact ⟨.primary, 0x2C, 0x00⟩ (mk 0x00 0x00 0x00 0x00 0x00 0x00 0xFE false false false false)) =
      some (⟨0x00, 0x00, 0x00, 0x00, 0x00, 0x00, 0xFF⟩, ⟨false, false, false, false⟩, none) := by decide

/-- V-INC-8 of 95_test_vectors.md, INC_A. -/
theorem test_inc_8 :
    ran (transact ⟨.primary, 0x3C, 0x00⟩ (mk 0x3F 0x77 0x00 0x00 0x00 0x00 0x00 false false false false)) =
      some (⟨0x40, 0x77, 0x00, 0x00, 0x00, 0x00, 0x00⟩, ⟨false, false, true, false⟩, none) := by decide

/-- V-DEC-1 of 95_test_vectors.md, DEC_B. -/
theorem test_dec_1 :
    ran (transact ⟨.primary, 0x05, 0x00⟩ (mk 0x00 0x00 0x00 0x00 0x00 0x00 0x00 false false false true)) =
      some (⟨0x00, 0xFF, 0x00, 0x00, 0x00, 0x00, 0x00⟩, ⟨false, false, true, true⟩, none) := by decide

/-- V-DEC-3 of 95_test_vectors.md, DEC_C. -/
theorem test_dec_3 :
    ran (transact ⟨.primary, 0x0D, 0x00⟩ (mk 0x00 0x00 0x01 0x00 0x00 0x00 0x00 false false false true)) =
      some (⟨0x00, 0x00, 0x00, 0x00, 0x00, 0x00, 0x00⟩, ⟨true, false, false, true⟩, none) := by decide

/-- V-DEC-4 of 95_test_vectors.md, DEC_D. -/
theorem test_dec_4 :
    ran (transact ⟨.primary, 0x15, 0x00⟩ (mk 0x00 0x00 0x00 0x10 0x00 0x00 0x00 false false false false)) =
      some (⟨0x00, 0x00, 0x00, 0x0F, 0x00, 0x00, 0x00⟩, ⟨false, false, true, false⟩, none) := by decide

/-- V-DEC-5 of 95_test_vectors.md, DEC_E. -/
theorem test_dec_5 :
    ran (transact ⟨.primary, 0x1D, 0x00⟩ (mk 0x00 0x00 0x00 0x00 0x2A 0x00 0x00 false false false false)) =
      some (⟨0x00, 0x00, 0x00, 0x00, 0x29, 0x00, 0x00⟩, ⟨false, false, false, false⟩, none) := by decide

/-- V-DEC-6 of 95_test_vectors.md, DEC_H. -/
theorem test_dec_6 :
    ran (transact ⟨.primary, 0x25, 0x00⟩ (mk 0x00 0x00 0x00 0x00 0x00 0x80 0x00 false false false false)) =
      some (⟨0x00, 0x00, 0x00, 0x00, 0x00, 0x7F, 0x00⟩, ⟨false, false, true, false⟩, none) := by decide

/-- V-DEC-7 of 95_test_vectors.md, DEC_L. -/
theorem test_dec_7 :
    ran (transact ⟨.primary, 0x2D, 0x00⟩ (mk 0x00 0x00 0x00 0x00 0x00 0x00 0xFF false false false false)) =
      some (⟨0x00, 0x00, 0x00, 0x00, 0x00, 0x00, 0xFE⟩, ⟨false, false, false, false⟩, none) := by decide

/-- V-DEC-8 of 95_test_vectors.md, DEC_A. -/
theorem test_dec_8 :
    ran (transact ⟨.primary, 0x3D, 0x00⟩ (mk 0x01 0x00 0x00 0x00 0x00 0x00 0x55 false false false false)) =
      some (⟨0x00, 0x00, 0x00, 0x00, 0x00, 0x00, 0x55⟩, ⟨true, false, false, false⟩, none) := by decide

/-- V-SH-RLC-01-0 of 95_test_vectors.md, from Subtract and HalfCarry set. -/
theorem test_rlc_b_01_0 :
    ran (transact ⟨.extended, 0x00, 0x00⟩ (mk 0x00 0x01 0x00 0x00 0x00 0x00 0x00 true true true false)) =
      some (⟨0x00, 0x02, 0x00, 0x00, 0x00, 0x00, 0x00⟩, ⟨false, false, false, false⟩, none) := by decide

/-- V-SH-RRC-01-0 of 95_test_vectors.md, from Subtract and HalfCarry set. -/
theorem test_rrc_b_01_0 :
    ran (transact ⟨.extended, 0x08, 0x00⟩ (mk 0x00 0x01 0x00 0x00 0x00 0x00 0x00 true true true false)) =
      some (⟨0x00, 0x80, 0x00, 0x00, 0x00, 0x00, 0x00⟩, ⟨false, false, false, true⟩, none) := by decide

/-- V-SH-RL-01-0 of 95_test_vectors.md, from Subtract and HalfCarry set. -/
theorem test_rl_b_01_0 :
    ran (transact ⟨.extended, 0x10, 0x00⟩ (mk 0x00 0x01 0x00 0x00 0x00 0x00 0x00 true true true false)) =
      some (⟨0x00, 0x02, 0x00, 0x00, 0x00, 0x00, 0x00⟩, ⟨false, false, false, false⟩, none) := by decide

/-- V-SH-RR-01-0 of 95_test_vectors.md, from Subtract and HalfCarry set. -/
theorem test_rr_b_01_0 :
    ran (transact ⟨.extended, 0x18, 0x00⟩ (mk 0x00 0x01 0x00 0x00 0x00 0x00 0x00 true true true false)) =
      some (⟨0x00, 0x00, 0x00, 0x00, 0x00, 0x00, 0x00⟩, ⟨true, false, false, true⟩, none) := by decide

/-- V-SH-SLA-01-0 of 95_test_vectors.md, from Subtract and HalfCarry set. -/
theorem test_sla_b_01_0 :
    ran (transact ⟨.extended, 0x20, 0x00⟩ (mk 0x00 0x01 0x00 0x00 0x00 0x00 0x00 true true true false)) =
      some (⟨0x00, 0x03, 0x00, 0x00, 0x00, 0x00, 0x00⟩, ⟨false, false, false, false⟩, none) := by decide

/-- V-SH-SRA-01-0 of 95_test_vectors.md, from Subtract and HalfCarry set. -/
theorem test_sra_b_01_0 :
    ran (transact ⟨.extended, 0x28, 0x00⟩ (mk 0x00 0x01 0x00 0x00 0x00 0x00 0x00 true true true false)) =
      some (⟨0x00, 0x00, 0x00, 0x00, 0x00, 0x00, 0x00⟩, ⟨true, false, false, true⟩, none) := by decide

/-- V-SH-SRL-01-0 of 95_test_vectors.md, from Subtract and HalfCarry set. -/
theorem test_srl_b_01_0 :
    ran (transact ⟨.extended, 0x38, 0x00⟩ (mk 0x00 0x01 0x00 0x00 0x00 0x00 0x00 true true true false)) =
      some (⟨0x00, 0x00, 0x00, 0x00, 0x00, 0x00, 0x00⟩, ⟨true, false, false, true⟩, none) := by decide

/-- V-SH-RLC-90-1 of 95_test_vectors.md, from Subtract and HalfCarry set. -/
theorem test_rlc_b_90_1 :
    ran (transact ⟨.extended, 0x00, 0x00⟩ (mk 0x00 0x90 0x00 0x00 0x00 0x00 0x00 true true true true)) =
      some (⟨0x00, 0x21, 0x00, 0x00, 0x00, 0x00, 0x00⟩, ⟨false, false, false, true⟩, none) := by decide

/-- V-SH-RRC-90-1 of 95_test_vectors.md, from Subtract and HalfCarry set. -/
theorem test_rrc_b_90_1 :
    ran (transact ⟨.extended, 0x08, 0x00⟩ (mk 0x00 0x90 0x00 0x00 0x00 0x00 0x00 true true true true)) =
      some (⟨0x00, 0x48, 0x00, 0x00, 0x00, 0x00, 0x00⟩, ⟨false, false, false, false⟩, none) := by decide

/-- V-SH-RL-90-1 of 95_test_vectors.md, from Subtract and HalfCarry set. -/
theorem test_rl_b_90_1 :
    ran (transact ⟨.extended, 0x10, 0x00⟩ (mk 0x00 0x90 0x00 0x00 0x00 0x00 0x00 true true true true)) =
      some (⟨0x00, 0x21, 0x00, 0x00, 0x00, 0x00, 0x00⟩, ⟨false, false, false, true⟩, none) := by decide

/-- V-SH-RR-90-1 of 95_test_vectors.md, from Subtract and HalfCarry set. -/
theorem test_rr_b_90_1 :
    ran (transact ⟨.extended, 0x18, 0x00⟩ (mk 0x00 0x90 0x00 0x00 0x00 0x00 0x00 true true true true)) =
      some (⟨0x00, 0xC8, 0x00, 0x00, 0x00, 0x00, 0x00⟩, ⟨false, false, false, false⟩, none) := by decide

/-- V-SH-SLA-90-1 of 95_test_vectors.md, from Subtract and HalfCarry set. -/
theorem test_sla_b_90_1 :
    ran (transact ⟨.extended, 0x20, 0x00⟩ (mk 0x00 0x90 0x00 0x00 0x00 0x00 0x00 true true true true)) =
      some (⟨0x00, 0x21, 0x00, 0x00, 0x00, 0x00, 0x00⟩, ⟨false, false, false, true⟩, none) := by decide

/-- V-SH-SRA-90-1 of 95_test_vectors.md, from Subtract and HalfCarry set. -/
theorem test_sra_b_90_1 :
    ran (transact ⟨.extended, 0x28, 0x00⟩ (mk 0x00 0x90 0x00 0x00 0x00 0x00 0x00 true true true true)) =
      some (⟨0x00, 0xC8, 0x00, 0x00, 0x00, 0x00, 0x00⟩, ⟨false, false, false, false⟩, none) := by decide

/-- V-SH-SRL-90-1 of 95_test_vectors.md, from Subtract and HalfCarry set. -/
theorem test_srl_b_90_1 :
    ran (transact ⟨.extended, 0x38, 0x00⟩ (mk 0x00 0x90 0x00 0x00 0x00 0x00 0x00 true true true true)) =
      some (⟨0x00, 0x48, 0x00, 0x00, 0x00, 0x00, 0x00⟩, ⟨false, false, false, false⟩, none) := by decide

/-- V-SEL-25, RLC_B. -/
theorem test_sel_25 :
    ran (transact ⟨.extended, 0x00, 0x00⟩ (mk 0x01 0x02 0x03 0x04 0x05 0x06 0x07 false false false false)) =
      some (⟨0x01, 0x04, 0x03, 0x04, 0x05, 0x06, 0x07⟩, ⟨false, false, false, false⟩, none) := by decide

/-- V-SEL-26, RLC_C. -/
theorem test_sel_26 :
    ran (transact ⟨.extended, 0x01, 0x00⟩ (mk 0x01 0x02 0x03 0x04 0x05 0x06 0x07 false false false false)) =
      some (⟨0x01, 0x02, 0x06, 0x04, 0x05, 0x06, 0x07⟩, ⟨false, false, false, false⟩, none) := by decide

/-- V-SEL-27, RLC_D. -/
theorem test_sel_27 :
    ran (transact ⟨.extended, 0x02, 0x00⟩ (mk 0x01 0x02 0x03 0x04 0x05 0x06 0x07 false false false false)) =
      some (⟨0x01, 0x02, 0x03, 0x08, 0x05, 0x06, 0x07⟩, ⟨false, false, false, false⟩, none) := by decide

/-- V-SEL-28, RLC_E. -/
theorem test_sel_28 :
    ran (transact ⟨.extended, 0x03, 0x00⟩ (mk 0x01 0x02 0x03 0x04 0x05 0x06 0x07 false false false false)) =
      some (⟨0x01, 0x02, 0x03, 0x04, 0x0A, 0x06, 0x07⟩, ⟨false, false, false, false⟩, none) := by decide

/-- V-SEL-29, RLC_H. -/
theorem test_sel_29 :
    ran (transact ⟨.extended, 0x04, 0x00⟩ (mk 0x01 0x02 0x03 0x04 0x05 0x06 0x07 false false false false)) =
      some (⟨0x01, 0x02, 0x03, 0x04, 0x05, 0x0C, 0x07⟩, ⟨false, false, false, false⟩, none) := by decide

/-- V-SEL-30, RLC_L. -/
theorem test_sel_30 :
    ran (transact ⟨.extended, 0x05, 0x00⟩ (mk 0x01 0x02 0x03 0x04 0x05 0x06 0x07 false false false false)) =
      some (⟨0x01, 0x02, 0x03, 0x04, 0x05, 0x06, 0x0E⟩, ⟨false, false, false, false⟩, none) := by decide

/-- V-SEL-31, RLC_A. -/
theorem test_sel_31 :
    ran (transact ⟨.extended, 0x07, 0x00⟩ (mk 0x01 0x02 0x03 0x04 0x05 0x06 0x07 false false false false)) =
      some (⟨0x02, 0x02, 0x03, 0x04, 0x05, 0x06, 0x07⟩, ⟨false, false, false, false⟩, none) := by decide

/-- P2 step 1, OR_A_A. -/
theorem test_p2_1 :
    ran (transact ⟨.primary, 0xB7, 0x00⟩ (mk 0x5A 0x00 0x00 0x12 0xC8 0x81 0x00 true true true true)) =
      some (⟨0x5A, 0x00, 0x00, 0x12, 0xC8, 0x81, 0x00⟩, ⟨false, false, false, false⟩, none) := by decide

/-- P2 step 2, PREFIX_CB RL_E. -/
theorem test_p2_2 :
    ran (transact ⟨.primary, 0xCB, 0x13⟩ (mk 0x5A 0x00 0x00 0x12 0xC8 0x81 0x00 false false false false)) =
      some (⟨0x5A, 0x00, 0x00, 0x12, 0x90, 0x81, 0x00⟩, ⟨false, false, false, true⟩, none) := by decide

/-- P2 step 3, PREFIX_CB RL_D. -/
theorem test_p2_3 :
    ran (transact ⟨.primary, 0xCB, 0x12⟩ (mk 0x5A 0x00 0x00 0x12 0x90 0x81 0x00 false false false true)) =
      some (⟨0x5A, 0x00, 0x00, 0x25, 0x90, 0x81, 0x00⟩, ⟨false, false, false, false⟩, none) := by decide

/-- P2 step 4, PREFIX_CB SRL_D. -/
theorem test_p2_4 :
    ran (transact ⟨.primary, 0xCB, 0x3A⟩ (mk 0x5A 0x00 0x00 0x25 0x90 0x81 0x00 false false false false)) =
      some (⟨0x5A, 0x00, 0x00, 0x12, 0x90, 0x81, 0x00⟩, ⟨false, false, false, true⟩, none) := by decide

/-- P2 step 5, PREFIX_CB RR_E. -/
theorem test_p2_5 :
    ran (transact ⟨.primary, 0xCB, 0x1B⟩ (mk 0x5A 0x00 0x00 0x12 0x90 0x81 0x00 false false false true)) =
      some (⟨0x5A, 0x00, 0x00, 0x12, 0xC8, 0x81, 0x00⟩, ⟨false, false, false, false⟩, none) := by decide

/-- P2 step 6, PREFIX_CB SLA_B. -/
theorem test_p2_6 :
    ran (transact ⟨.primary, 0xCB, 0x20⟩ (mk 0x5A 0x00 0x00 0x12 0xC8 0x81 0x00 false false false false)) =
      some (⟨0x5A, 0x01, 0x00, 0x12, 0xC8, 0x81, 0x00⟩, ⟨false, false, false, false⟩, none) := by decide

/-- P2 step 7, PREFIX_CB SRA_H. -/
theorem test_p2_7 :
    ran (transact ⟨.primary, 0xCB, 0x2C⟩ (mk 0x5A 0x01 0x00 0x12 0xC8 0x81 0x00 false false false false)) =
      some (⟨0x5A, 0x01, 0x00, 0x12, 0xC8, 0xC0, 0x00⟩, ⟨false, false, false, true⟩, none) := by decide

/-- P2 step 8, PREFIX_CB RLC_A. -/
theorem test_p2_8 :
    ran (transact ⟨.primary, 0xCB, 0x07⟩ (mk 0x5A 0x01 0x00 0x12 0xC8 0xC0 0x00 false false false true)) =
      some (⟨0xB4, 0x01, 0x00, 0x12, 0xC8, 0xC0, 0x00⟩, ⟨false, false, false, false⟩, none) := by decide

/-- P2 step 9, PREFIX_CB (unrecognized 0x30). -/
theorem test_p2_9 :
    ran (transact ⟨.primary, 0xCB, 0x30⟩ (mk 0xB4 0x01 0x00 0x12 0xC8 0xC0 0x00 false false false false)) =
      some (⟨0xB4, 0x01, 0x00, 0x12, 0xC8, 0xC0, 0x00⟩, ⟨false, false, false, false⟩, some (.unrecognizedOpcode .extended 0x30)) := by decide

/-- P2 step 10, PREFIX_CB RRC_A. -/
theorem test_p2_10 :
    ran (transact ⟨.primary, 0xCB, 0x0F⟩ (mk 0xB4 0x01 0x00 0x12 0xC8 0xC0 0x00 false false false false)) =
      some (⟨0x5A, 0x01, 0x00, 0x12, 0xC8, 0xC0, 0x00⟩, ⟨false, false, false, false⟩, none) := by decide

/-- V-DSP-1, the source's example. -/
theorem test_dsp_1 :
    ran (transact ⟨.primary, 0xD3, 0x00⟩ (mk 0x12 0x90 0x34 0x56 0x78 0x9A 0xBC true false true true)) =
      some (⟨0x12, 0x90, 0x34, 0x56, 0x78, 0x9A, 0xBC⟩, ⟨true, false, true, true⟩,
        some (.unrecognizedOpcode .primary 0xD3)) := by decide

/-- V-DSP-16: no nested escape. -/
theorem test_dsp_16 :
    ran (transact ⟨.primary, 0xCB, 0xCB⟩ (mk 0x12 0x90 0x34 0x56 0x78 0x9A 0xBC true false true true)) =
      some (⟨0x12, 0x90, 0x34, 0x56, 0x78, 0x9A, 0xBC⟩, ⟨true, false, true, true⟩,
        some (.unrecognizedOpcode .extended 0xCB)) := by decide

/-- V-DEC-9: DEC writes Subtract false. -/
theorem test_dec_9 :
    ran (transact ⟨.primary, 0x05, 0x00⟩ (mk 0 0x05 0 0 0 0 0 true true true false)) =
      some (⟨0, 0x04, 0, 0, 0, 0, 0⟩, ⟨false, false, false, false⟩, none) := by decide

/-! Steps. -/

/-- A table word placed at reset runs as the next step: INC_A from zero (R68). -/
theorem test_fetch_word_runs :
    ran (step (State.reset.withFetchWord 8 0x3C)) =
      some (⟨1, 0, 0, 0, 0, 0, 0⟩, ⟨false, false, false, false⟩, none) := by decide

/-- R93: reset overrides the transaction presented with it. -/
theorem test_reset_overrides :
    ran (step { mk 1 2 3 4 5 6 7 true true true true with inputs := [⟨true, true, ⟨.primary, 0x80, 0⟩⟩] }) =
      some (⟨0, 0, 0, 0, 0, 0, 0⟩, ⟨false, false, false, false⟩, none) := by decide

/-- R16: nothing is performed while `start` is not asserted. -/
theorem test_idle_keeps_state :
    ran (step { mk 1 2 3 4 5 6 7 true true true true with inputs := [⟨false, false, ⟨.primary, 0x80, 0⟩⟩] }) =
      some (⟨1, 2, 3, 4, 5, 6, 7⟩, ⟨true, true, true, true⟩, none) := by decide

/-- The output ports after an unrecognized Extended code (R16). -/
theorem test_diagnostic_ports :
    (step (State.reset.withTransaction ⟨.extended, 0x30, 0⟩) |> fun o => match o with
      | .next t => (t.diagValid, t.diagOutput)
      | _ => (false, none)) = (true, some (true, 0x30)) := by decide

/-! Witnesses: hypotheses of statements, met together. For the families, the first and the last row of the list. -/

theorem witness_AddRegisterResultAndFrame :
    ((.addAB, 0x80, .b) : Instr × Byte × Reg) ∈ ([(.addAB, 0x80, .b), (.addAC, 0x81, .c), (.addAD, 0x82, .d), (.addAE, 0x83, .e), (.addAH, 0x84, .h),
      (.addAL, 0x85, .l), (.addAA, 0x87, .a)] : List (Instr × Byte × Reg)) ∧
    ((.addAA, 0x87, .a) : Instr × Byte × Reg) ∈ ([(.addAB, 0x80, .b), (.addAC, 0x81, .c), (.addAD, 0x82, .d), (.addAE, 0x83, .e), (.addAH, 0x84, .h),
      (.addAL, 0x85, .l), (.addAA, 0x87, .a)] : List (Instr × Byte × Reg)) := by decide

theorem witness_AddWithCarryRegisterResultAndFrame :
    ((.adcAB, 0x88, .b) : Instr × Byte × Reg) ∈ ([(.adcAB, 0x88, .b), (.adcAC, 0x89, .c), (.adcAD, 0x8A, .d), (.adcAE, 0x8B, .e), (.adcAH, 0x8C, .h),
      (.adcAL, 0x8D, .l), (.adcAA, 0x8F, .a)] : List (Instr × Byte × Reg)) ∧
    ((.adcAA, 0x8F, .a) : Instr × Byte × Reg) ∈ ([(.adcAB, 0x88, .b), (.adcAC, 0x89, .c), (.adcAD, 0x8A, .d), (.adcAE, 0x8B, .e), (.adcAH, 0x8C, .h),
      (.adcAL, 0x8D, .l), (.adcAA, 0x8F, .a)] : List (Instr × Byte × Reg)) := by decide

theorem witness_SubtractRegisterResultAndFrame :
    ((.subAB, 0x90, .b) : Instr × Byte × Reg) ∈ ([(.subAB, 0x90, .b), (.subAC, 0x91, .c), (.subAD, 0x92, .d), (.subAE, 0x93, .e), (.subAH, 0x94, .h),
      (.subAL, 0x95, .l), (.subAA, 0x97, .a)] : List (Instr × Byte × Reg)) ∧
    ((.subAA, 0x97, .a) : Instr × Byte × Reg) ∈ ([(.subAB, 0x90, .b), (.subAC, 0x91, .c), (.subAD, 0x92, .d), (.subAE, 0x93, .e), (.subAH, 0x94, .h),
      (.subAL, 0x95, .l), (.subAA, 0x97, .a)] : List (Instr × Byte × Reg)) := by decide

theorem witness_SubtractWithCarryRegisterResultAndFrame :
    ((.sbcAB, 0x98, .b) : Instr × Byte × Reg) ∈ ([(.sbcAB, 0x98, .b), (.sbcAC, 0x99, .c), (.sbcAD, 0x9A, .d), (.sbcAE, 0x9B, .e), (.sbcAH, 0x9C, .h),
      (.sbcAL, 0x9D, .l), (.sbcAA, 0x9F, .a)] : List (Instr × Byte × Reg)) ∧
    ((.sbcAA, 0x9F, .a) : Instr × Byte × Reg) ∈ ([(.sbcAB, 0x98, .b), (.sbcAC, 0x99, .c), (.sbcAD, 0x9A, .d), (.sbcAE, 0x9B, .e), (.sbcAH, 0x9C, .h),
      (.sbcAL, 0x9D, .l), (.sbcAA, 0x9F, .a)] : List (Instr × Byte × Reg)) := by decide

theorem witness_AndRegisterResultAndFrame :
    ((.andAB, 0xA0, .b) : Instr × Byte × Reg) ∈ ([(.andAB, 0xA0, .b), (.andAC, 0xA1, .c), (.andAD, 0xA2, .d), (.andAE, 0xA3, .e), (.andAH, 0xA4, .h),
      (.andAL, 0xA5, .l), (.andAA, 0xA7, .a)] : List (Instr × Byte × Reg)) ∧
    ((.andAA, 0xA7, .a) : Instr × Byte × Reg) ∈ ([(.andAB, 0xA0, .b), (.andAC, 0xA1, .c), (.andAD, 0xA2, .d), (.andAE, 0xA3, .e), (.andAH, 0xA4, .h),
      (.andAL, 0xA5, .l), (.andAA, 0xA7, .a)] : List (Instr × Byte × Reg)) := by decide

theorem witness_XorRegisterResultAndFrame :
    ((.xorAB, 0xA8, .b) : Instr × Byte × Reg) ∈ ([(.xorAB, 0xA8, .b), (.xorAC, 0xA9, .c), (.xorAD, 0xAA, .d), (.xorAE, 0xAB, .e), (.xorAH, 0xAC, .h),
      (.xorAL, 0xAD, .l), (.xorAA, 0xAF, .a)] : List (Instr × Byte × Reg)) ∧
    ((.xorAA, 0xAF, .a) : Instr × Byte × Reg) ∈ ([(.xorAB, 0xA8, .b), (.xorAC, 0xA9, .c), (.xorAD, 0xAA, .d), (.xorAE, 0xAB, .e), (.xorAH, 0xAC, .h),
      (.xorAL, 0xAD, .l), (.xorAA, 0xAF, .a)] : List (Instr × Byte × Reg)) := by decide

theorem witness_OrRegisterResultAndFrame :
    ((.orAB, 0xB0, .b) : Instr × Byte × Reg) ∈ ([(.orAB, 0xB0, .b), (.orAC, 0xB1, .c), (.orAD, 0xB2, .d), (.orAE, 0xB3, .e), (.orAH, 0xB4, .h),
      (.orAL, 0xB5, .l), (.orAA, 0xB7, .a)] : List (Instr × Byte × Reg)) ∧
    ((.orAA, 0xB7, .a) : Instr × Byte × Reg) ∈ ([(.orAB, 0xB0, .b), (.orAC, 0xB1, .c), (.orAD, 0xB2, .d), (.orAE, 0xB3, .e), (.orAH, 0xB4, .h),
      (.orAL, 0xB5, .l), (.orAA, 0xB7, .a)] : List (Instr × Byte × Reg)) := by decide

theorem witness_CompareRegisterResultAndFrame :
    ((.cpAB, 0xB8, .b) : Instr × Byte × Reg) ∈ ([(.cpAB, 0xB8, .b), (.cpAC, 0xB9, .c), (.cpAD, 0xBA, .d), (.cpAE, 0xBB, .e), (.cpAH, 0xBC, .h),
      (.cpAL, 0xBD, .l), (.cpAA, 0xBF, .a)] : List (Instr × Byte × Reg)) ∧
    ((.cpAA, 0xBF, .a) : Instr × Byte × Reg) ∈ ([(.cpAB, 0xB8, .b), (.cpAC, 0xB9, .c), (.cpAD, 0xBA, .d), (.cpAE, 0xBB, .e), (.cpAH, 0xBC, .h),
      (.cpAL, 0xBD, .l), (.cpAA, 0xBF, .a)] : List (Instr × Byte × Reg)) := by decide

theorem witness_IncrementResultAndFrame :
    ((.incB, 0x04, .b) : Instr × Byte × Reg) ∈ ([(.incB, 0x04, .b), (.incC, 0x0C, .c), (.incD, 0x14, .d), (.incE, 0x1C, .e), (.incH, 0x24, .h),
      (.incL, 0x2C, .l), (.incA, 0x3C, .a)] : List (Instr × Byte × Reg)) ∧
    ((.incA, 0x3C, .a) : Instr × Byte × Reg) ∈ ([(.incB, 0x04, .b), (.incC, 0x0C, .c), (.incD, 0x14, .d), (.incE, 0x1C, .e), (.incH, 0x24, .h),
      (.incL, 0x2C, .l), (.incA, 0x3C, .a)] : List (Instr × Byte × Reg)) := by decide

theorem witness_DecrementResultAndFrame :
    ((.decB, 0x05, .b) : Instr × Byte × Reg) ∈ ([(.decB, 0x05, .b), (.decC, 0x0D, .c), (.decD, 0x15, .d), (.decE, 0x1D, .e), (.decH, 0x25, .h),
      (.decL, 0x2D, .l), (.decA, 0x3D, .a)] : List (Instr × Byte × Reg)) ∧
    ((.decA, 0x3D, .a) : Instr × Byte × Reg) ∈ ([(.decB, 0x05, .b), (.decC, 0x0D, .c), (.decD, 0x15, .d), (.decE, 0x1D, .e), (.decH, 0x25, .h),
      (.decL, 0x2D, .l), (.decA, 0x3D, .a)] : List (Instr × Byte × Reg)) := by decide

theorem witness_RotateLeftCircularResultAndFrame :
    ((.rlcB, 0x00, .b) : Instr × Byte × Reg) ∈ ([(.rlcB, 0x00, .b), (.rlcC, 0x01, .c), (.rlcD, 0x02, .d), (.rlcE, 0x03, .e), (.rlcH, 0x04, .h),
      (.rlcL, 0x05, .l), (.rlcA, 0x07, .a)] : List (Instr × Byte × Reg)) ∧
    ((.rlcA, 0x07, .a) : Instr × Byte × Reg) ∈ ([(.rlcB, 0x00, .b), (.rlcC, 0x01, .c), (.rlcD, 0x02, .d), (.rlcE, 0x03, .e), (.rlcH, 0x04, .h),
      (.rlcL, 0x05, .l), (.rlcA, 0x07, .a)] : List (Instr × Byte × Reg)) := by decide

theorem witness_RotateRightCircularResultAndFrame :
    ((.rrcB, 0x08, .b) : Instr × Byte × Reg) ∈ ([(.rrcB, 0x08, .b), (.rrcC, 0x09, .c), (.rrcD, 0x0A, .d), (.rrcE, 0x0B, .e), (.rrcH, 0x0C, .h),
      (.rrcL, 0x0D, .l), (.rrcA, 0x0F, .a)] : List (Instr × Byte × Reg)) ∧
    ((.rrcA, 0x0F, .a) : Instr × Byte × Reg) ∈ ([(.rrcB, 0x08, .b), (.rrcC, 0x09, .c), (.rrcD, 0x0A, .d), (.rrcE, 0x0B, .e), (.rrcH, 0x0C, .h),
      (.rrcL, 0x0D, .l), (.rrcA, 0x0F, .a)] : List (Instr × Byte × Reg)) := by decide

theorem witness_RotateLeftThroughCarryResultAndFrame :
    ((.rlB, 0x10, .b) : Instr × Byte × Reg) ∈ ([(.rlB, 0x10, .b), (.rlC, 0x11, .c), (.rlD, 0x12, .d), (.rlE, 0x13, .e), (.rlH, 0x14, .h),
      (.rlL, 0x15, .l), (.rlA, 0x17, .a)] : List (Instr × Byte × Reg)) ∧
    ((.rlA, 0x17, .a) : Instr × Byte × Reg) ∈ ([(.rlB, 0x10, .b), (.rlC, 0x11, .c), (.rlD, 0x12, .d), (.rlE, 0x13, .e), (.rlH, 0x14, .h),
      (.rlL, 0x15, .l), (.rlA, 0x17, .a)] : List (Instr × Byte × Reg)) := by decide

theorem witness_RotateRightThroughCarryResultAndFrame :
    ((.rrB, 0x18, .b) : Instr × Byte × Reg) ∈ ([(.rrB, 0x18, .b), (.rrC, 0x19, .c), (.rrD, 0x1A, .d), (.rrE, 0x1B, .e), (.rrH, 0x1C, .h),
      (.rrL, 0x1D, .l), (.rrA, 0x1F, .a)] : List (Instr × Byte × Reg)) ∧
    ((.rrA, 0x1F, .a) : Instr × Byte × Reg) ∈ ([(.rrB, 0x18, .b), (.rrC, 0x19, .c), (.rrD, 0x1A, .d), (.rrE, 0x1B, .e), (.rrH, 0x1C, .h),
      (.rrL, 0x1D, .l), (.rrA, 0x1F, .a)] : List (Instr × Byte × Reg)) := by decide

theorem witness_ShiftLeftArithmeticResultAndFrame :
    ((.slaB, 0x20, .b) : Instr × Byte × Reg) ∈ ([(.slaB, 0x20, .b), (.slaC, 0x21, .c), (.slaD, 0x22, .d), (.slaE, 0x23, .e), (.slaH, 0x24, .h),
      (.slaL, 0x25, .l), (.slaA, 0x27, .a)] : List (Instr × Byte × Reg)) ∧
    ((.slaA, 0x27, .a) : Instr × Byte × Reg) ∈ ([(.slaB, 0x20, .b), (.slaC, 0x21, .c), (.slaD, 0x22, .d), (.slaE, 0x23, .e), (.slaH, 0x24, .h),
      (.slaL, 0x25, .l), (.slaA, 0x27, .a)] : List (Instr × Byte × Reg)) := by decide

theorem witness_ShiftRightArithmeticResultAndFrame :
    ((.sraB, 0x28, .b) : Instr × Byte × Reg) ∈ ([(.sraB, 0x28, .b), (.sraC, 0x29, .c), (.sraD, 0x2A, .d), (.sraE, 0x2B, .e), (.sraH, 0x2C, .h),
      (.sraL, 0x2D, .l), (.sraA, 0x2F, .a)] : List (Instr × Byte × Reg)) ∧
    ((.sraA, 0x2F, .a) : Instr × Byte × Reg) ∈ ([(.sraB, 0x28, .b), (.sraC, 0x29, .c), (.sraD, 0x2A, .d), (.sraE, 0x2B, .e), (.sraH, 0x2C, .h),
      (.sraL, 0x2D, .l), (.sraA, 0x2F, .a)] : List (Instr × Byte × Reg)) := by decide

theorem witness_ShiftRightLogicalResultAndFrame :
    ((.srlB, 0x38, .b) : Instr × Byte × Reg) ∈ ([(.srlB, 0x38, .b), (.srlC, 0x39, .c), (.srlD, 0x3A, .d), (.srlE, 0x3B, .e), (.srlH, 0x3C, .h),
      (.srlL, 0x3D, .l), (.srlA, 0x3F, .a)] : List (Instr × Byte × Reg)) ∧
    ((.srlA, 0x3F, .a) : Instr × Byte × Reg) ∈ ([(.srlB, 0x38, .b), (.srlC, 0x39, .c), (.srlD, 0x3A, .d), (.srlE, 0x3B, .e), (.srlH, 0x3C, .h),
      (.srlL, 0x3D, .l), (.srlA, 0x3F, .a)] : List (Instr × Byte × Reg)) := by decide

/-- Port values that present one transaction without and with reset, and none. -/
def run1 : Ports := ⟨false, true, ⟨.primary, 0x80, 0⟩⟩

theorem witness_StepRunsTheDecodedInstruction_decoded :
    ({ State.reset with inputs := [run1] } : State).inputs = run1 :: [] ∧ run1.reset = false ∧ run1.start = true ∧
      decode run1.transaction.entry run1.transaction.opcode run1.transaction.operand = .ok .addAB := by decide

theorem witness_StepRunsTheDecodedInstruction_rejected :
    ({ State.reset with inputs := [startPorts ⟨.primary, 0xD3, 0⟩] } : State).inputs =
        startPorts ⟨.primary, 0xD3, 0⟩ :: [] ∧
      (startPorts ⟨.primary, 0xD3, 0⟩).reset = false ∧ (startPorts ⟨.primary, 0xD3, 0⟩).start = true ∧
      decode .primary 0xD3 0 = .error (.unrecognizedOpcode .primary 0xD3) := by decide

theorem witness_ResetPortOverridesTheTransaction :
    ({ State.reset with inputs := [{ run1 with reset := true }] } : State).inputs =
        { run1 with reset := true } :: [] ∧ ({ run1 with reset := true } : Ports).reset = true := by decide

theorem witness_NothingAssertedChangesNothing :
    (({ State.reset with inputs := [{ run1 with start := false }] } : State).inputs =
        { run1 with start := false } :: [] ∧ ({ run1 with start := false } : Ports).reset = false ∧
      ({ run1 with start := false } : Ports).start = false) ∧ State.reset.inputs = [] := by decide

theorem witness_TableWordRunsAsTheNextStep : decodeTableWord 8 0x3F = some .srlA := by decide

theorem witness_PrefixCbRunsTheForwardedOperation : decode .extended 0x3F 0x3F = .ok .srlA := by decide

theorem witness_PrefixCbReportsAnUnrecognizedForwardedCode :
    recognized .extended 0x06 = false ∧ recognized .extended 0xFF = false := by decide

theorem witness_UnrecognizedCodeIsAReportedNoOp :
    decode .primary 0x00 0 = .error (.unrecognizedOpcode .primary 0x00) ∧
    (decode .primary 0xCB 0x40 = .ok (.prefixCb 0x40) ∧
      decode .extended 0x40 0x40 = .error (.unrecognizedOpcode .extended 0x40)) := by decide

theorem witness_UnrecognizedDiagnosticNamesTableAndCode :
    recognized .primary 0xFF = false ∧ recognized .extended 0x40 = false := by decide

theorem witness_RecognizedOperationsRaiseNothing :
    (∀ e, Instr.addAB = .prefixCb e → ∃ j, decode .extended e e = .ok j) ∧
    (∀ e, Instr.prefixCb 0x3F = .prefixCb e → ∃ j, decode .extended e e = .ok j) := by
  constructor
  · intro e h; cases h
  · intro e h; cases h; exact ⟨.srlA, by decide⟩

theorem witness_OperandIgnoredUnlessImmediateOrEscape :
    ¬ (CodeSpace.primary = .primary ∧
      (primaryMap 0x80 = some .escape ∨ ∃ op, primaryMap 0x80 = some (.accImm op))) ∧
    ¬ (CodeSpace.extended = .primary ∧
      (primaryMap 0xC6 = some .escape ∨ ∃ op, primaryMap 0xC6 = some (.accImm op))) := by
  have h : primaryMap 0x80#8 = some (.accReg .add .b) := by decide
  simp [h]

theorem witness_DecodeExactlyInvertsEncode :
    decode .primary 0xC6 0xFF = .ok (.addAD8 0xFF) ∧ (encode (.addAD8 0xFF)).entry = .primary ∧
      (encode (.addAD8 0xFF)).opcode = 0xC6 ∧ (encode (.addAD8 0xFF)).operand = 0xFF := by decide

theorem witness_RecognizedCodesAreThoseOfTheBitTests :
    recognized .primary 0x04 = true ∧ recognized .primary 0x03 = false ∧ recognized .extended 0x3F = true ∧
      recognized .extended 0x40 = false := by decide

theorem witness_OnlyTheDestinationRegisterCanChange :
    primaryMap 0xCB = some .escape ∧ primaryMap 0xB8 = some (.accReg .cp .b) ∧
      extendedMap 0x3F = some (.shift .srl .a) := by decide

theorem witness_ZeroSubtractHalfCarryFeedNothing :
    ∀ e, Instr.prefixCb 0x00 = .prefixCb e → ∃ j, decode .extended e e = .ok j := by
  intro e h; cases h; exact ⟨.rlcB, by decide⟩

theorem witness_CarryFeedsOnlyFourOperations :
    (primaryMap 0x3D = some (.dec .a) ∧ Claims.readsCarry (.dec .a) = false) ∧
    (extendedMap 0x20 = some (.shift .sla .b) ∧ ShiftOp.sla ≠ .rl ∧ ShiftOp.sla ≠ .rr) := by decide

theorem witness_StepKeepsTheDiagnosticInvariant :
    DiagnosticNamesUnrecognized { State.reset with diag := some (.unrecognizedOpcode .primary 0xD3) } ∧
    ∃ s', step { State.reset with diag := some (.unrecognizedOpcode .primary 0xD3) } = .next s' := by
  refine ⟨?_, _, rfl⟩
  intro space code h
  cases h
  decide

theorem witness_TransactionsTakeEffectInIssueOrder :
    ({ State.reset with inputs := [startPorts ⟨.primary, 0x3C, 0⟩, startPorts ⟨.primary, 0xCB, 0x07⟩, run1] } : State).inputs =
      [Transaction.mk .primary 0x3C 0, ⟨.primary, 0xCB, 0x07⟩].map startPorts ++ [run1] := by decide

theorem witness_CleanInputsRunSafelyForever :
    ∀ p ∈ ({ State.reset with inputs := [run1, { run1 with reset := true }, startPorts ⟨.primary, 0xCB, 0x3F⟩] } : State).inputs,
      p.clean = true := by decide

theorem witness_CarryClearAdcIsAddAndSbcIsSub : State.reset.flags.carry = false := by decide

end Sys2Proof.Tests
end

section
/-! # Family 10_state: what the registers, the flags and the diagnostic feed -/

namespace Sys2Proof.Machine

/-! ## The instruction forms (R28)

Every instruction is one of the decoder's entries, so a fact about all 128 constructors is a fact about six forms. -/

/-- The encoder's transaction decodes to the instruction it presents. -/
theorem decode_encode (i : Instr) :
    decode (encode i).entry (encode i).opcode (encode i).operand = .ok i := by
  cases i with
  | addAD8 n => exact decode_primary_some (c := 0xC6) (op := .accImm .add) rfl
  | adcAD8 n => exact decode_primary_some (c := 0xCE) (op := .accImm .adc) rfl
  | subAD8 n => exact decode_primary_some (c := 0xD6) (op := .accImm .sub) rfl
  | sbcAD8 n => exact decode_primary_some (c := 0xDE) (op := .accImm .sbc) rfl
  | andAD8 n => exact decode_primary_some (c := 0xE6) (op := .accImm .and) rfl
  | xorAD8 n => exact decode_primary_some (c := 0xEE) (op := .accImm .xor) rfl
  | orAD8 n => exact decode_primary_some (c := 0xF6) (op := .accImm .or) rfl
  | cpAD8 n => exact decode_primary_some (c := 0xFE) (op := .accImm .cp) rfl
  | _ => rfl

theorem decode_primary_ok {c o : Byte} {i : Instr} (h : decode .primary c o = .ok i) :
    ∃ op, primaryMap c = some op ∧ i = primaryInstr op o := by
  cases hm : primaryMap c with
  | none => simp [decode_primary_none hm] at h
  | some op => exact ⟨op, rfl, by simpa [decode_primary_some hm] using h.symm⟩

theorem decode_extended_ok {c o : Byte} {i : Instr} (h : decode .extended c o = .ok i) :
    ∃ op r, extendedMap c = some (.shift op r) ∧ i = shiftInstr op r := by
  cases hm : extendedMap c with
  | none => simp [decode_extended_none hm] at h
  | some entry =>
    obtain ⟨op, r⟩ := entry
    exact ⟨op, r, rfl, by simpa [decode_extended_some hm] using h.symm⟩

/-- Every instruction stands under an entry of one of the two maps. -/
theorem instr_forms (i : Instr) :
    (∃ op n, i = primaryInstr op n) ∨ ∃ op r, i = shiftInstr op r := by
  have h := decode_encode i
  cases he : (encode i).entry with
  | primary =>
    obtain ⟨op, -, hi⟩ := decode_primary_ok (he ▸ h)
    exact .inl ⟨op, _, hi⟩
  | extended =>
    obtain ⟨op, r, -, hi⟩ := decode_extended_ok (he ▸ h)
    exact .inr ⟨op, r, hi⟩

/-- The meaning the register form and the immediate form of an accumulator operation share, with the right operand as
the source gives it (R51 to R67). -/
def accOp (op : AluOp) (y : Byte) (s : State) : Result :=
  match op with
  | .add => accumulate add8 .add y s
  | .adc => accumulate add8 .add (carryAdjust y s) s
  | .sub => accumulate sub8 .subtract y s
  | .sbc => accumulate sub8 .subtract (carryAdjust y s) s
  | .and => accumulate and8 .and y s
  | .xor => accumulate xor8 .xor y s
  | .or => accumulate or8 .or y s
  | .cp => discard sub8 .compare y s

theorem exec_accReg (op : AluOp) (r : Reg) (s : State) :
    exec (accRegInstr op r) s = accOp op (s.read r) s :=
  match op with
  | .add => exec_add_reg r s
  | .adc => exec_adc_reg r s
  | .sub => exec_sub_reg r s
  | .sbc => exec_sbc_reg r s
  | .and => exec_and_reg r s
  | .xor => exec_xor_reg r s
  | .or => exec_or_reg r s
  | .cp => exec_cp_reg r s

theorem exec_accImm (op : AluOp) (n : Byte) (s : State) :
    exec (accImmInstr op n) s = accOp op n s := by
  cases op <;> rfl

/-- An accumulator operation always completes. -/
theorem accOp_completes (op : AluOp) (y : Byte) (s : State) : ∃ t, accOp op y s = .next t := by
  cases op <;> exact ⟨_, rfl⟩

/-- PREFIX_CB performs the shift its byte selects (R80). -/
theorem exec_prefixCb_shift {e : Byte} {op : ShiftOp} {r : Reg} (h : extendedMap e = some (.shift op r))
    (s : State) : exec (.prefixCb e) s = shiftReg op r s := by
  rw [exec_prefixCb_some h, runExtended_shift]

theorem transact_primary_some {c : Byte} {op : PrimaryOp} (h : primaryMap c = some op) (o : Byte) (s : State) :
    transact ⟨.primary, c, o⟩ s = exec (primaryInstr op o) s := by
  simp only [transact_eq_perform, decode_primary_some h, perform]

theorem transact_extended_some {c : Byte} {op : ShiftOp} {r : Reg} (h : extendedMap c = some (.shift op r))
    (o : Byte) (s : State) : transact ⟨.extended, c, o⟩ s = shiftReg op r s := by
  simp only [transact_eq_perform, decode_extended_some h, perform, exec_shift]

/-! ## What an operation reads: the registers and Carry (R9)

The waiting inputs count too, since an operation passes them on. -/

/-- `s` and `t` agree on all that a recognized operation takes from its state. -/
structure SameReads (s t : State) : Prop where
  regs : t.regs = s.regs
  carry : t.flags.carry = s.flags.carry
  inputs : t.inputs = s.inputs

section
variable {s t : State} (h : SameReads s t)
include h

theorem SameReads.read (r : Reg) : t.read r = s.read r := by
  rw [State.read, h.regs, State.read]

theorem SameReads.complete (regs : RegFile) (flags : FlagSet) : t.complete regs flags = s.complete regs flags := by
  simp only [State.complete, h.inputs]

theorem SameReads.carryAdjust (y : Byte) : carryAdjust y t = carryAdjust y s := by
  simp only [Machine.carryAdjust, h.carry]

theorem SameReads.accumulate (fn : Byte → Byte → Byte × Bool) (cls : Classifier) (y : Byte) :
    accumulate fn cls y t = accumulate fn cls y s := by
  simp only [Machine.accumulate, aluApply, h.read, h.regs, h.complete, flagApply_old_carry _ _ _ _ _ cls _ h.carry]

theorem SameReads.discard (fn : Byte → Byte → Byte × Bool) (cls : Classifier) (y : Byte) :
    discard fn cls y t = discard fn cls y s := by
  simp only [Machine.discard, aluApply, h.read, h.regs, h.complete, flagApply_old_carry _ _ _ _ _ cls _ h.carry]

theorem SameReads.inPlace (fn : Byte → Byte → Byte × Bool) (cls : Classifier) (r : Reg) :
    inPlace fn cls r t = inPlace fn cls r s := by
  simp only [Machine.inPlace, aluApply, h.read, h.regs, h.complete, flagApply_old_carry _ _ _ _ _ cls _ h.carry]

theorem SameReads.shiftReg (op : ShiftOp) (r : Reg) : shiftReg op r t = shiftReg op r s := by
  simp only [Machine.shiftReg, h.read, h.regs, h.carry, h.complete, flagApply_shift]

theorem SameReads.accOp (op : AluOp) (y : Byte) : accOp op y t = accOp op y s := by
  cases op <;> simp only [Machine.accOp, h.carryAdjust, h.accumulate, h.discard]

/-- States that agree on registers, Carry and waiting inputs have the same outcome under every instruction, but for the
escape with an unrecognized forwarded code, which keeps the flags as they were (R82). -/
theorem SameReads.exec (i : Instr) (hesc : ∀ e, i = .prefixCb e → ∃ op r, extendedMap e = some (.shift op r)) :
    exec i t = exec i s := by
  obtain ⟨op, n, rfl⟩ | ⟨op, r, rfl⟩ := instr_forms i
  · cases op with
    | accReg op r => simp only [primaryInstr, exec_accReg, h.read, h.accOp]
    | accImm op => simp only [primaryInstr, exec_accImm, h.accOp]
    | inc r => simp only [primaryInstr, exec_inc, h.inPlace]
    | dec r => simp only [primaryInstr, exec_dec, h.inPlace]
    | escape =>
      obtain ⟨op, r, hm⟩ := hesc n rfl
      simp only [primaryInstr, exec_prefixCb_shift hm, h.shiftReg]
  · simp only [exec_shift, h.shiftReg]

end

/-- Settles O48: the new flags leave registers, Carry and waiting inputs as they were, and nothing else is read. -/
theorem zeroSubtractHalfCarryFeedNothing : Obligations.ZeroSubtractHalfCarryFeedNothing := by
  intro i s z n h hrec
  have hreads : SameReads s { s with flags := ⟨z, n, h, s.flags.carry⟩ } := ⟨rfl, rfl, rfl⟩
  refine hreads.exec i fun e he => ?_
  obtain ⟨j, hj⟩ := hrec e he
  obtain ⟨op, r, hm, -⟩ := decode_extended_ok hj
  exact ⟨op, r, hm⟩

/-! ## Who reads Carry (R9, R41, R42) -/

/-- Only the Increment and Decrement rows take a flag from the old ones (R38). -/
theorem flagApply_old_unused {cls : Classifier} (hinc : cls ≠ .increment) (hdec : cls ≠ .decrement)
    (x y r : Byte) (ov : Bool) (old old' : FlagSet) :
    flagApply cls x y r ov old' = flagApply cls x y r ov old := by
  cases cls with
  | increment => exact absurd rfl hinc
  | decrement => exact absurd rfl hdec
  | _ => rfl

theorem accumulate_flags {cls : Classifier} (hinc : cls ≠ .increment) (hdec : cls ≠ .decrement)
    (fn : Byte → Byte → Byte × Bool) (y : Byte) (s : State) (f : FlagSet) :
    accumulate fn cls y { s with flags := f } = accumulate fn cls y s := by
  simp only [accumulate, aluApply, State.read, State.complete, flagApply_old_unused hinc hdec _ _ _ _ s.flags f]

theorem discard_flags {cls : Classifier} (hinc : cls ≠ .increment) (hdec : cls ≠ .decrement)
    (fn : Byte → Byte → Byte × Bool) (y : Byte) (s : State) (f : FlagSet) :
    discard fn cls y { s with flags := f } = discard fn cls y s := by
  simp only [discard, aluApply, State.read, State.complete, flagApply_old_unused hinc hdec _ _ _ _ s.flags f]

/-- An accumulator operation other than ADC and SBC reads no flag. -/
theorem accOp_flags {op : AluOp} (hadc : op ≠ .adc) (hsbc : op ≠ .sbc) (y : Byte) (s : State) (f : FlagSet) :
    accOp op y { s with flags := f } = accOp op y s := by
  cases op with
  | adc => exact absurd rfl hadc
  | sbc => exact absurd rfl hsbc
  | cp => exact discard_flags (by decide) (by decide) _ _ _ _
  | _ => exact accumulate_flags (by decide) (by decide) _ _ _ _

/-- Two states that differ in Carry end an accumulator operation other than ADC and SBC in the same state. -/
theorem accOp_carry {op : AluOp} (hadc : op ≠ .adc) (hsbc : op ≠ .sbc) (y : Byte) (s : State) (c : Bool) :
    ∃ t, accOp op y s = .next t ∧ accOp op y { s with flags := { s.flags with carry := c } } = .next t := by
  obtain ⟨t, ht⟩ := accOp_completes op y s
  exact ⟨t, ht, (accOp_flags hadc hsbc y s _).trans ht⟩

/-- INC and DEC hand Carry on and make no other use of it (R41, R42). -/
theorem inPlace_carry {cls : Classifier} (hcls : cls = .increment ∨ cls = .decrement)
    (fn : Byte → Byte → Byte × Bool) (r : Reg) (s : State) (c : Bool) :
    ∃ t, inPlace fn cls r s = .next t ∧
      inPlace fn cls r { s with flags := { s.flags with carry := c } } =
        .next { t with flags := { t.flags with carry := c } } := by
  rcases hcls with rfl | rfl <;> exact ⟨_, rfl, rfl⟩

/-- The fill bit depends on Carry in the two through-carry rotations only (R70; decision D19). -/
theorem fillBit_carry {op : ShiftOp} (hrl : op ≠ .rl) (hrr : op ≠ .rr) (v : Byte) (c c' : Bool) :
    fillBit op v c' = fillBit op v c := by
  cases op with
  | rl => exact absurd rfl hrl
  | rr => exact absurd rfl hrr
  | _ => rfl

/-- A shift other than RL and RR reads no flag. -/
theorem shiftReg_flags {op : ShiftOp} (hrl : op ≠ .rl) (hrr : op ≠ .rr) (r : Reg) (s : State) (f : FlagSet) :
    shiftReg op r { s with flags := f } = shiftReg op r s := by
  simp only [shiftReg, State.read, State.complete, flagApply_shift, fillBit_carry hrl hrr _ s.flags.carry f.carry]

/-- Settles O49: an accumulator operation but ADC and SBC, and a shift but RL and RR, reads no flag at all; INC and DEC
hand Carry on. -/
theorem carryFeedsOnlyFourOperations : Obligations.CarryFeedsOnlyFourOperations := by
  refine ⟨fun code operand op s c hop hread => ?_, fun code operand op r s c hop hrl hrr => ?_⟩
  · simp only [transact_primary_some hop]
    cases op with
    | accReg op r =>
      obtain ⟨t, ht, hc⟩ := accOp_carry (op := op) (by rintro rfl; cases hread) (by rintro rfl; cases hread)
        (s.read r) s c
      exact ⟨t, t, (exec_accReg op r s).trans ht, (exec_accReg op r _).trans hc, rfl, rfl, rfl, rfl⟩
    | accImm op =>
      obtain ⟨t, ht, hc⟩ := accOp_carry (op := op) (by rintro rfl; cases hread) (by rintro rfl; cases hread)
        operand s c
      exact ⟨t, t, (exec_accImm op operand s).trans ht, (exec_accImm op operand _).trans hc, rfl, rfl, rfl, rfl⟩
    | inc r =>
      obtain ⟨t, ht, hc⟩ := inPlace_carry (.inl rfl) add8 r s c
      exact ⟨t, _, (exec_inc r s).trans ht, (exec_inc r _).trans hc, rfl, rfl, rfl, rfl⟩
    | dec r =>
      obtain ⟨t, ht, hc⟩ := inPlace_carry (.inr rfl) sub8 r s c
      exact ⟨t, _, (exec_dec r s).trans ht, (exec_dec r _).trans hc, rfl, rfl, rfl, rfl⟩
    | escape => cases hread
  · simp only [transact_extended_some hop, shiftReg_flags hrl hrr]

/-! ## The diagnostic is an output only (R17) -/

/-- No instruction reads the diagnostic, the unrecognized escape included. -/
theorem exec_diag (i : Instr) (s : State) (d : Option Diag) : exec i { s with diag := d } = exec i s := by
  by_cases hesc : ∃ e, i = .prefixCb e ∧ extendedMap e = none
  · obtain ⟨e, rfl, hm⟩ := hesc
    rw [exec_prefixCb_none hm, exec_prefixCb_none hm, raiseUnrecognized, raiseUnrecognized]
  · have hreads : SameReads s { s with diag := d } := ⟨rfl, rfl, rfl⟩
    refine hreads.exec i fun e he => ?_
    cases hm : extendedMap e with
    | none => exact absurd ⟨e, he, hm⟩ hesc
    | some entry => obtain ⟨op, r⟩ := entry; exact ⟨op, r, rfl⟩

theorem transact_diag (t : Transaction) (s : State) (d : Option Diag) :
    transact t { s with diag := d } = transact t s := by
  rw [transact_eq_perform, transact_eq_perform]
  cases decode t.entry t.opcode t.operand with
  | ok i => exact exec_diag i s d
  | error e => rfl

theorem present_diag (p : Ports) (s : State) (d : Option Diag) :
    present p { s with diag := d } = present p s := by
  unfold present
  split
  · rfl
  · split
    · exact transact_diag _ s d
    · rfl

theorem takeInput_diag (s : State) (d : Option Diag) :
    takeInput { s with diag := d } = ((takeInput s).1, { (takeInput s).2 with diag := d }) := by
  obtain ⟨regs, flags, inputs, diag⟩ := s
  cases inputs <;> rfl

/-- Settles O50: whatever port values the step presents, a reset, a transaction or nothing, read no diagnostic. -/
theorem diagnosticInfluencesNoLaterStep : Obligations.DiagnosticInfluencesNoLaterStep := by
  intro s d
  rw [step, takeInput_diag, present_diag, step]

/-! ## Reset (R12) and the step that asserts nothing (R16, R88) -/

@[simp] theorem State.reset_read (r : Reg) : State.reset.read r = 0x00 := by
  cases r <;> rfl

/-- Settles O39: the reset values of Config, register by register and flag by flag. -/
theorem resetClearsRegistersAndFlags : Obligations.ResetClearsRegistersAndFlags :=
  ⟨State.reset_read, ⟨rfl, rfl, rfl, rfl⟩, State.reset_diag⟩

/-- Settles O45: reset presents no diagnostic, so there is none to name a pair. -/
theorem diagnosticInvariantHoldsAtReset : Obligations.DiagnosticInvariantHoldsAtReset := by
  intro space code h
  rw [State.reset_diag] at h
  cases h

/-- A step without a transaction withdraws the diagnostic and nothing else (log 17). -/
theorem idle_eq (s : State) : idle s = .next { s with diag := none } := rfl

/-- Port values that assert neither reset nor start perform nothing (R16). -/
theorem present_idle {p : Ports} (hreset : p.reset = false) (hstart : p.start = false) (s : State) :
    present p s = idle s := by
  simp [present, hreset, hstart]

/-- Settles O41: both the quiet port values and the empty list of inputs come to `idle`. -/
theorem nothingAssertedChangesNothing : Obligations.NothingAssertedChangesNothing := by
  refine ⟨fun s p rest hin hreset hstart => ?_, fun s hin => ?_⟩
  · rw [step_of_inputs_cons hin, present_idle hreset hstart, idle_eq]
  · rw [step_of_inputs_nil hin, idle_eq]

end Sys2Proof.Machine
end

section
/-! # Family 20_memory: a list of transactions (R24, decision D10) -/

namespace Sys2Proof.Machine

/-! ## The frame of the waiting inputs

A step takes its own port values first (log 6), so the transaction runs with the later ones still waiting. It must
neither read nor change them. -/

/-- `f` completes and passes the waiting inputs on unread: with others waiting it ends in the same state but for those. -/
def PassesInputs (f : State → Result) : Prop :=
  ∀ (s : State) (later : List Ports), ∃ t, f s = .next t ∧ t.inputs = s.inputs ∧
    f { s with inputs := later } = .next { t with inputs := later }

theorem accOp_passesInputs (op : AluOp) (y : Byte) : PassesInputs (accOp op y) := by
  intro s later
  cases op <;> exact ⟨_, rfl, rfl, rfl⟩

theorem inPlace_passesInputs (fn : Byte → Byte → Byte × Bool) (cls : Classifier) (r : Reg) :
    PassesInputs (inPlace fn cls r) :=
  fun _ _ => ⟨_, rfl, rfl, rfl⟩

theorem shiftReg_passesInputs (op : ShiftOp) (r : Reg) : PassesInputs (shiftReg op r) :=
  fun _ _ => ⟨_, rfl, rfl, rfl⟩

theorem raiseUnrecognized_passesInputs (d : Diag) : PassesInputs (raiseUnrecognized d) :=
  fun _ _ => ⟨_, rfl, rfl, rfl⟩

/-- The escape performs a shift or reports its byte (R80, R82). -/
theorem prefixCb_passesInputs (e : Byte) : PassesInputs (exec (.prefixCb e)) := by
  cases hm : extendedMap e with
  | none =>
    have hraise : exec (.prefixCb e) = raiseUnrecognized _ := funext fun _ => exec_prefixCb_none hm
    exact hraise ▸ raiseUnrecognized_passesInputs _
  | some entry =>
    obtain ⟨op, r⟩ := entry
    exact funext (exec_prefixCb_shift hm) ▸ shiftReg_passesInputs op r

theorem exec_passesInputs (i : Instr) : PassesInputs (exec i) := by
  obtain ⟨op, n, rfl⟩ | ⟨op, r, rfl⟩ := instr_forms i
  · cases op with
    | accReg op r =>
      intro s later
      simp only [primaryInstr, exec_accReg]
      exact accOp_passesInputs op (s.read r) s later
    | accImm op => exact funext (exec_accImm op n) ▸ accOp_passesInputs op n
    | inc r => exact funext (exec_inc r) ▸ inPlace_passesInputs add8 .increment r
    | dec r => exact funext (exec_dec r) ▸ inPlace_passesInputs sub8 .decrement r
    | escape => exact prefixCb_passesInputs n
  · exact funext (exec_shift r · op) ▸ shiftReg_passesInputs op r

theorem transact_passesInputs (t : Transaction) : PassesInputs (transact t) := by
  rw [funext (transact_eq_perform t)]
  cases decode t.entry t.opcode t.operand with
  | ok i => exact exec_passesInputs i
  | error d => exact raiseUnrecognized_passesInputs d

/-! ## One step and one transaction of the list -/

/-- Port values that start a transaction without reset perform it (R16). -/
theorem present_startPorts (t : Transaction) (s : State) : present (startPorts t) s = transact t s := by
  simp [present]

theorem core_run_succ {M : Host.Core} {s s' : M.State} (h : M.step s = .next s') (k : Nat) :
    M.run (k + 1) s = M.run k s' := by
  rw [Host.Core.run, h]

theorem transactAll_cons {t : Transaction} {s s' : State} (h : transact t s = .next s') (ts : List Transaction) :
    transactAll (t :: ts) s = ((transactAll ts s').1, s'.diag.toList ++ (transactAll ts s').2) := by
  rw [transactAll, h]

/-- Settles O51, by induction on the list: the step performs the first transaction with the later ones still waiting,
and the frame of the waiting inputs carries its result over to the fold, where only `rest` waits. -/
theorem transactionsTakeEffectInIssueOrder : Obligations.TransactionsTakeEffectInIssueOrder := by
  intro ts
  induction ts with
  | nil =>
    intro s rest hin
    obtain rfl : s.inputs = rest := hin
    rfl
  | cons t ts ih =>
    intro s rest hin
    have hstep := (step_of_inputs_cons hin).trans (present_startPorts t _)
    obtain ⟨s', hnext, hwait, hfold⟩ := transact_passesInputs t { s with inputs := ts.map startPorts ++ rest } rest
    calc Sys2Proof.core.run (ts.length + 1) s
        = Sys2Proof.core.run ts.length s' := core_run_succ (M := Sys2Proof.core) (hstep.trans hnext) _
      _ = .next (transactAll ts { s' with inputs := rest }).1 := ih s' rest hwait
      _ = .next (transactAll (t :: ts) { s with inputs := rest }).1 := by rw [transactAll_cons hfold]

end Sys2Proof.Machine
end

section
/-! # Family 30_encoding: the decoder's fields, the encoder's tables and the bit tests (R28 to R34) -/

namespace Sys2Proof

open Machine

/-! ## The fields of a code (R28, R29) -/

/-- The `rsel` field of a register (R29). -/
def Reg.field : Reg → BitVec 3
  | .b => 0
  | .c => 1
  | .d => 2
  | .e => 3
  | .h => 4
  | .l => 5
  | .a => 7

/-- The `aop` field of an accumulator operation (R28). -/
def AluOp.field : AluOp → BitVec 3
  | .add => 0
  | .adc => 1
  | .sub => 2
  | .sbc => 3
  | .and => 4
  | .xor => 5
  | .or => 6
  | .cp => 7

/-- The `sop` field of a shift (R28). -/
def ShiftOp.field : ShiftOp → BitVec 3
  | .rlc => 0
  | .rrc => 1
  | .rl => 2
  | .rr => 3
  | .sla => 4
  | .sra => 5
  | .srl => 7

theorem selectedReg_eq_some_iff (f : BitVec 3) (r : Reg) : selectedReg f = some r ↔ f = r.field := by
  revert f
  cases r <;> decide

theorem selectedAlu_eq_iff (f : BitVec 3) (op : AluOp) : selectedAlu f = op ↔ f = op.field := by
  revert f
  cases op <;> decide

theorem selectedShift_eq_some_iff (f : BitVec 3) (op : ShiftOp) : selectedShift f = some op ↔ f = op.field := by
  revert f
  cases op <;> decide

/-- Every field value but 6 selects a register (log 3). -/
theorem Reg.exists_field_eq {f : BitVec 3} (h : f ≠ 6) : ∃ r : Reg, r.field = f := by
  have hsome : (selectedReg f).isSome := by revert f; decide
  obtain ⟨r, hr⟩ := Option.isSome_iff_exists.mp hsome
  exact ⟨r, ((selectedReg_eq_some_iff f r).mp hr).symm⟩

/-- Every field value but 6 selects a shift (R78, log 3). -/
theorem ShiftOp.exists_field_eq {f : BitVec 3} (h : f ≠ 6) : ∃ op : ShiftOp, op.field = f := by
  have hsome : (selectedShift f).isSome := by revert f; decide
  obtain ⟨op, hop⟩ := Option.isSome_iff_exists.mp hsome
  exact ⟨op, ((selectedShift_eq_some_iff f op).mp hop).symm⟩

/-- The byte with the given fields: bits 7 to 6, 5 to 3 and 2 to 0. -/
def codeOf (hi : BitVec 2) (mid lo : BitVec 3) : Byte := hi ++ (mid ++ lo)

/-- A byte is its three fields: no bit of a code is outside them. -/
theorem codeOf_fields (c : Byte) :
    codeOf (c.extractLsb' 6 2) (c.extractLsb' 3 3) (c.extractLsb' 0 3) = c := by
  have hlow : c.extractLsb' 3 3 ++ c.extractLsb' 0 3 = c.extractLsb' 0 6 :=
    BitVec.extractLsb'_append_extractLsb'_eq_extractLsb' rfl
  have hall : c.extractLsb' 6 2 ++ c.extractLsb' 0 6 = c.extractLsb' 0 8 :=
    BitVec.extractLsb'_append_extractLsb'_eq_extractLsb' rfl
  rw [codeOf, hlow, hall, BitVec.extractLsb'_eq_self]

/-! ## The code of an entry -/

/-- The code of a Primary entry by its format (R28). -/
def primaryCode : PrimaryOp → Byte
  | .accReg op r => codeOf 0b10 op.field r.field
  | .accImm op => codeOf 0b11 op.field 0b110
  | .inc r => codeOf 0b00 r.field 0b100
  | .dec r => codeOf 0b00 r.field 0b101
  | .escape => codeOf 0b11 0b001 0b011

/-- The code of an Extended entry by format XS (R28). -/
def shiftCode (op : ShiftOp) (r : Reg) : Byte := codeOf 0b00 op.field r.field

theorem primaryMap_primaryCode (op : PrimaryOp) : primaryMap (primaryCode op) = some op := by
  cases op with
  | accReg op r => cases op <;> cases r <;> rfl
  | accImm op => cases op <;> rfl
  | inc r => cases r <;> rfl
  | dec r => cases r <;> rfl
  | escape => rfl

/-- A Primary entry is found under its own code only: each format's tests fix all three fields. -/
theorem primaryCode_of_primaryMap {c : Byte} {op : PrimaryOp} (h : primaryMap c = some op) :
    primaryCode op = c := by
  have hc := codeOf_fields c
  simp only [primaryMap] at h
  split_ifs at h with hesc hreg himm hinc hdec
  · cases h
    exact hesc.symm
  · obtain ⟨r, hr, rfl⟩ := Option.map_eq_some_iff.mp h
    rw [primaryCode, ← (selectedReg_eq_some_iff _ r).mp hr, ← (selectedAlu_eq_iff _ _).mp rfl, ← hreg, hc]
  · cases h
    rw [primaryCode, ← (selectedAlu_eq_iff _ _).mp rfl, ← himm.1, ← himm.2, hc]
  · obtain ⟨r, hr, rfl⟩ := Option.map_eq_some_iff.mp h
    rw [primaryCode, ← (selectedReg_eq_some_iff _ r).mp hr, ← hinc.1, ← hinc.2, hc]
  · obtain ⟨r, hr, rfl⟩ := Option.map_eq_some_iff.mp h
    rw [primaryCode, ← (selectedReg_eq_some_iff _ r).mp hr, ← hdec.1, ← hdec.2, hc]

theorem extendedMap_shiftCode (op : ShiftOp) (r : Reg) : extendedMap (shiftCode op r) = some (.shift op r) := by
  cases op <;> cases r <;> rfl

/-- An Extended entry is found under its own code only. -/
theorem shiftCode_of_extendedMap {c : Byte} {op : ShiftOp} {r : Reg} (h : extendedMap c = some (.shift op r)) :
    shiftCode op r = c := by
  simp only [extendedMap] at h
  split_ifs at h with hhi
  split at h
  · next hop hr =>
    cases h
    rw [shiftCode, ← (selectedShift_eq_some_iff _ _).mp hop, ← (selectedReg_eq_some_iff _ _).mp hr, ← hhi,
      codeOf_fields]
  · cases h

theorem decode_primaryCode (op : PrimaryOp) (o : Byte) :
    decode .primary (primaryCode op) o = .ok (primaryInstr op o) :=
  decode_primary_some (primaryMap_primaryCode op)

theorem decode_shiftCode (op : ShiftOp) (r : Reg) (o : Byte) :
    decode .extended (shiftCode op r) o = .ok (shiftInstr op r) :=
  decode_extended_some (extendedMap_shiftCode op r)

/-! ## The encoder's tables (R30, R31) hold the codes of the entries -/

theorem encode_primaryInstr (op : PrimaryOp) (o : Byte) :
    encode (primaryInstr op o) =
      ⟨.primary, primaryCode op, if usesOperand .primary (primaryCode op) then o else 0⟩ := by
  cases op with
  | accReg op r => cases op <;> cases r <;> rfl
  | accImm op => cases op <;> rfl
  | inc r => cases r <;> rfl
  | dec r => cases r <;> rfl
  | escape => rfl

theorem encode_shiftInstr (op : ShiftOp) (r : Reg) :
    encode (shiftInstr op r) = ⟨.extended, shiftCode op r, 0⟩ := by
  cases op <;> cases r <;> rfl

/-! ## The operand byte (R33) -/

/-- Only an immediate form or the escape takes anything from the operand byte. -/
theorem decode_ignores_operand {space : CodeSpace} {c : Byte}
    (h : ¬ (space = .primary ∧ (primaryMap c = some .escape ∨ ∃ op, primaryMap c = some (.accImm op))))
    (o₁ o₂ : Byte) : decode space c o₁ = decode space c o₂ := by
  cases space with
  | extended => rfl
  | primary =>
    cases hm : primaryMap c with
    | none => rw [decode_primary_none hm, decode_primary_none hm]
    | some op =>
      rw [decode_primary_some hm, decode_primary_some hm]
      cases op with
      | accImm op => exact absurd ⟨rfl, .inr ⟨op, hm⟩⟩ h
      | escape => exact absurd ⟨rfl, .inl hm⟩ h
      | _ => rfl

/-- The codes of the immediate forms and the escape pass the bit test of R33. -/
theorem usesOperand_of_primaryMap {c : Byte}
    (h : primaryMap c = some .escape ∨ ∃ op, primaryMap c = some (.accImm op)) :
    usesOperand .primary c = true := by
  obtain h | ⟨op, h⟩ := h
  · rw [← primaryCode_of_primaryMap h]
    rfl
  · rw [← primaryCode_of_primaryMap h]
    cases op <;> rfl

/-- The decoder's answer depends on the operand byte only where the bit test of R33 says it is consulted. -/
theorem decode_congr_operand {space : CodeSpace} {c o₁ o₂ : Byte} (h : usesOperand space c = true → o₁ = o₂) :
    decode space c o₁ = decode space c o₂ := by
  by_cases hu : usesOperand space c = true
  · rw [h hu]
  · refine decode_ignores_operand ?_ o₁ o₂
    rintro ⟨rfl, hm⟩
    exact hu (usesOperand_of_primaryMap hm)

/-- Settles O35: the entry that decodes has the code that the encoder's table gives it, and conversely the encoder's
transaction decodes to its instruction whatever byte stands in an operand that is not consulted. -/
theorem decodeExactlyInvertsEncode : Obligations.DecodeExactlyInvertsEncode := by
  refine ⟨decode_encode, fun space code operand i => ⟨fun h => ?_, ?_⟩⟩
  · cases space with
    | primary =>
      obtain ⟨op, hm, rfl⟩ := decode_primary_ok h
      rw [encode_primaryInstr, primaryCode_of_primaryMap hm]
      exact ⟨rfl, rfl, fun hu => if_pos hu⟩
    | extended =>
      obtain ⟨op, r, hm, rfl⟩ := decode_extended_ok h
      rw [encode_shiftInstr, shiftCode_of_extendedMap hm]
      exact ⟨rfl, rfl, nofun⟩
  · rintro ⟨rfl, rfl, hoperand⟩
    rw [← decode_congr_operand hoperand, decode_encode]

/-- Settles O34: a transaction performs what its lookup finds, and the lookup ignores the operand byte. -/
theorem operandIgnoredUnlessImmediateOrEscape : Obligations.OperandIgnoredUnlessImmediateOrEscape := by
  intro s entry c o₁ o₂ h
  rw [transact_eq_perform, transact_eq_perform, decode_ignores_operand h o₁ o₂]

/-! ## The recognized codes (R34) -/

theorem recognized_primaryCode (op : PrimaryOp) : recognized .primary (primaryCode op) = true := by
  cases op with
  | accReg op r => cases op <;> cases r <;> rfl
  | accImm op => cases op <;> rfl
  | inc r => cases r <;> rfl
  | dec r => cases r <;> rfl
  | escape => rfl

theorem recognized_shiftCode (op : ShiftOp) (r : Reg) : recognized .extended (shiftCode op r) = true := by
  cases op <;> cases r <;> rfl

/-- The bit test of the Primary space as arithmetic on the code's number. -/
theorem recognized_primary_iff_toNat (c : Byte) : recognized .primary c = true ↔
    c.toNat = 0xCB ∨ (c.toNat / 64 = 2 ∧ c.toNat % 8 ≠ 6) ∨ (c.toNat / 64 = 3 ∧ c.toNat % 8 = 6) ∨
      (c.toNat / 64 = 0 ∧ c.toNat % 8 / 2 = 2 ∧ c.toNat / 8 % 8 ≠ 6) := by
  simp [recognized, ← BitVec.toNat_inj, and_assoc, or_assoc]

/-- The bit test of the Extended space as arithmetic on the code's number. -/
theorem recognized_extended_iff_toNat (c : Byte) : recognized .extended c = true ↔
    c.toNat / 64 = 0 ∧ c.toNat / 8 % 8 ≠ 6 ∧ c.toNat % 8 ≠ 6 := by
  simp [recognized, and_assoc]

/-- A field as arithmetic on the code's number. -/
theorem field_eq_iff_toNat (c : Byte) (start len : Nat) (f : BitVec len) :
    c.extractLsb' start len = f ↔ c.toNat / 2 ^ start % 2 ^ len = f.toNat := by
  rw [← BitVec.toNat_inj, BitVec.extractLsb'_toNat, Nat.shiftRight_eq_div_pow]

/-- The bit test of the Primary space on the fields of the code. -/
theorem recognized_primary_fields {c : Byte} (h : recognized .primary c = true) :
    c = esc ∨ (c.extractLsb' 6 2 = 0b10 ∧ c.extractLsb' 0 3 ≠ 6) ∨
      (c.extractLsb' 6 2 = 0b11 ∧ c.extractLsb' 0 3 = 0b110) ∨
      (c.extractLsb' 6 2 = 0b00 ∧ (c.extractLsb' 0 3 = 0b100 ∨ c.extractLsb' 0 3 = 0b101) ∧
        c.extractLsb' 3 3 ≠ 6) := by
  have hesc : c = esc ↔ c.toNat = 0xCB := BitVec.toNat_inj.symm
  rw [recognized_primary_iff_toNat] at h
  simp only [hesc, ne_eq, field_eq_iff_toNat, BitVec.ofNat_eq_ofNat, BitVec.toNat_ofNat]
  omega

/-- The bit test of the Extended space on the fields of the code. -/
theorem recognized_extended_fields {c : Byte} (h : recognized .extended c = true) :
    c.extractLsb' 6 2 = 0b00 ∧ c.extractLsb' 3 3 ≠ 6 ∧ c.extractLsb' 0 3 ≠ 6 := by
  rw [recognized_extended_iff_toNat] at h
  simp only [ne_eq, field_eq_iff_toNat, BitVec.ofNat_eq_ofNat, BitVec.toNat_ofNat]
  omega

/-- A Primary code passes the bit test exactly when it is the code of an entry. -/
theorem recognized_primary_iff {c : Byte} : recognized .primary c = true ↔ ∃ op, primaryCode op = c := by
  refine ⟨fun h => ?_, fun ⟨op, hop⟩ => hop ▸ recognized_primaryCode op⟩
  have hc := codeOf_fields c
  have haop : (selectedAlu (c.extractLsb' 3 3)).field = c.extractLsb' 3 3 :=
    ((selectedAlu_eq_iff _ _).mp rfl).symm
  obtain hesc | ⟨hhi, hlo⟩ | ⟨hhi, hlo⟩ | ⟨hhi, hlo, hmid⟩ := recognized_primary_fields h
  · exact ⟨.escape, hesc.symm⟩
  · obtain ⟨r, hr⟩ := Reg.exists_field_eq hlo
    exact ⟨.accReg (selectedAlu (c.extractLsb' 3 3)) r, by rw [primaryCode, haop, hr, ← hhi, hc]⟩
  · exact ⟨.accImm (selectedAlu (c.extractLsb' 3 3)), by rw [primaryCode, haop, ← hhi, ← hlo, hc]⟩
  · obtain ⟨r, hr⟩ := Reg.exists_field_eq hmid
    obtain hlo | hlo := hlo
    · exact ⟨.inc r, by rw [primaryCode, hr, ← hhi, ← hlo, hc]⟩
    · exact ⟨.dec r, by rw [primaryCode, hr, ← hhi, ← hlo, hc]⟩

/-- An Extended code passes the bit test exactly when it is the code of an entry. -/
theorem recognized_extended_iff {c : Byte} :
    recognized .extended c = true ↔ ∃ op r, shiftCode op r = c := by
  refine ⟨fun h => ?_, fun ⟨op, r, hop⟩ => hop ▸ recognized_shiftCode op r⟩
  obtain ⟨hhi, hmid, hlo⟩ := recognized_extended_fields h
  obtain ⟨op, hop⟩ := ShiftOp.exists_field_eq hmid
  obtain ⟨r, hr⟩ := Reg.exists_field_eq hlo
  exact ⟨op, r, by rw [shiftCode, hop, hr, ← hhi, codeOf_fields]⟩

theorem decode_ok_of_recognized {space : CodeSpace} {c : Byte} (h : recognized space c = true) (o : Byte) :
    ∃ i, decode space c o = .ok i := by
  cases space with
  | primary =>
    obtain ⟨op, rfl⟩ := recognized_primary_iff.mp h
    exact ⟨_, decode_primaryCode op o⟩
  | extended =>
    obtain ⟨op, r, rfl⟩ := recognized_extended_iff.mp h
    exact ⟨_, decode_shiftCode op r o⟩

theorem decode_error_of_not_recognized {space : CodeSpace} {c : Byte} (h : recognized space c = false) (o : Byte) :
    decode space c o = .error (.unrecognizedOpcode space c) := by
  cases space with
  | primary =>
    cases hm : primaryMap c with
    | none => exact decode_primary_none hm
    | some op => simp [← primaryCode_of_primaryMap hm, recognized_primaryCode] at h
  | extended =>
    cases hm : extendedMap c with
    | none => exact decode_extended_none hm
    | some entry =>
      obtain ⟨op, r⟩ := entry
      simp [← shiftCode_of_extendedMap hm, recognized_shiftCode] at h

/-- The decoder rejects exactly what fails the bit test of R34. -/
theorem exists_decode_error_iff (space : CodeSpace) (c o : Byte) :
    (∃ d, decode space c o = .error d) ↔ recognized space c = false := by
  refine ⟨fun ⟨d, hd⟩ => ?_, fun h => ⟨_, decode_error_of_not_recognized h o⟩⟩
  by_contra h
  obtain ⟨i, hi⟩ := decode_ok_of_recognized (Bool.eq_true_of_not_eq_false h) o
  cases hd.symm.trans hi

/-- Settles O36: the codes that pass the bit test are the codes of the entries; the counts are taken over the 256 codes
of each space. -/
theorem recognizedCodesAreThoseOfTheBitTests : Obligations.RecognizedCodesAreThoseOfTheBitTests :=
  ⟨fun _ _ operand => ⟨(decode_ok_of_recognized · operand), (decode_error_of_not_recognized · operand)⟩,
    by decide, by decide⟩

/-- Settles O37: a rejected code fails the bit test, which is arithmetic on the code's number that
the ranges list. -/
theorem unrecognizedCodesAreTheListedRanges : Obligations.UnrecognizedCodesAreTheListedRanges := by
  refine ⟨fun code operand => ?_, fun code operand => ?_⟩
  · rw [exists_decode_error_iff, ← Bool.not_eq_true, recognized_primary_iff_toNat]
    have hlt := byte_lt code
    simp only [List.mem_cons, List.not_mem_nil, or_false, exists_eq_or_imp, exists_eq_left]
    omega
  · rw [exists_decode_error_iff, ← Bool.not_eq_true, recognized_extended_iff_toNat]
    have hlt := byte_lt code
    simp only [List.mem_cons, List.not_mem_nil, or_false, exists_eq_or_imp, exists_eq_left]
    omega

/-- Settles O38: each code is the code of its entry, field by field; 0xD3 is the code of none. -/
theorem sampleCodesDecodeToTheirInstructions : Obligations.SampleCodesDecodeToTheirInstructions :=
  ⟨decode_primaryCode (.accReg .add .c) _, decode_primaryCode (.accReg .sbc .a) _,
    decode_primaryCode (.accImm .cp) _, decode_primaryCode (.inc .b) _, decode_primaryCode (.dec .l) _,
    decode_primaryCode .escape _, decode_shiftCode .rlc .h _, decode_shiftCode .sla .e _,
    decode_shiftCode .srl .a _, decode_primary_none rfl⟩

/-! ## The immediate form (R32) -/

/-- Settles O55: both forms perform the operation they share on the same right operand. -/
theorem immediateFormActsAsRegisterHoldingIt : Obligations.ImmediateFormActsAsRegisterHoldingIt :=
  fun op r s => (exec_accImm op (s.read r) s).trans (exec_accReg op r s).symm

end Sys2Proof
end

section
/-! # Family 40_flag_update: the flag table, the operation functions, the carry pre-adjust and the write-back -/

namespace Sys2Proof.Machine

/-! ## The flag table (R39 to R44) -/

/-- Settles O1: each row is the table's, with Zero and the half-carry test as tests on numbers. -/
theorem flagTableRows : Obligations.FlagTableRows := by
  intro x y result overflow old
  simp only [flagApply_add, flagApply_compare, flagApply_subtract, flagApply_increment, flagApply_decrement,
    flagApply_and, flagApply_or, flagApply_xor, beq_zero_iff, halfCarry_add, halfCarry_sub, halfCarry_inc,
    halfCarry_dec, true_and]
  rfl

/-! ## Addition to A and subtraction from A

The right operand is any byte, so that one lemma serves the register form, the immediate form and the carry-adjusted
operand. -/

theorem accumulate_add_effect (y : Byte) (s : State) :
    ∃ t, accumulate add8 .add y s = .next t ∧ Claims.AddEffect s y.toNat t := by
  obtain ⟨t, ht, hregs, hflags, hframe, hquiet⟩ := accumulate_next add8 .add y s
  refine ⟨t, ht, ?_, ?_, hframe, hquiet⟩
  · rw [State.read_of_write hregs, add8_result]
  · rw [flagApply_add, beq_zero_iff, add8_result, halfCarry_add, add8_overflow] at hflags
    rw [FlagsAre, hflags]
    exact ⟨rfl, rfl, rfl, rfl⟩

/-- A difference of bytes wraps to zero only where they are equal. -/
theorem sub8_beq_zero (x y : Byte) : ((sub8 x y).1 == 0#8) = decide (x.toNat = y.toNat) := by
  have hx := byte_lt x
  have hy := byte_lt y
  have hresult := sub8_result x y
  rw [beq_zero_iff, decide_eq_decide]
  omega

theorem accumulate_sub_effect (y : Byte) (s : State) :
    ∃ t, accumulate sub8 .subtract y s = .next t ∧ Claims.SubEffect s y.toNat t := by
  obtain ⟨t, ht, hregs, hflags, hframe, hquiet⟩ := accumulate_next sub8 .subtract y s
  refine ⟨t, ht, ?_, ?_, hframe, hquiet⟩
  · rw [State.read_of_write hregs, sub8_result]
  · rw [flagApply_subtract, sub8_beq_zero, halfCarry_sub, sub8_overflow] at hflags
    rw [FlagsAre, hflags]
    exact ⟨rfl, rfl, rfl, rfl⟩

/-! ## The operation functions (R47) -/

/-- The register `inPlace` writes and the flags are what `AluApply` answers for the right operand 1. -/
theorem inPlace_eq_aluApply (fn : Byte → Byte → Byte × Bool) (cls : Classifier) (r : Reg) (s : State) :
    ∃ t, inPlace fn cls r s = .next t ∧ (t.read r, t.flags) = aluApply fn (s.read r) 1 cls s.flags := by
  obtain ⟨t, ht, hregs, hflags, -, -⟩ := inPlace_next fn cls r s
  exact ⟨t, ht, Prod.ext (State.read_of_write hregs) hflags⟩

/-- Under the Add and the Subtract row the overflow becomes Carry (R39, R40). -/
theorem accumulate_carry {cls : Classifier} (hcls : cls = .add ∨ cls = .subtract)
    (fn : Byte → Byte → Byte × Bool) (y : Byte) (s : State) :
    ∃ t, accumulate fn cls y s = .next t ∧ t.flags.carry = (fn (s.read .a) y).2 := by
  obtain ⟨t, ht, -, hflags, -, -⟩ := accumulate_next fn cls y s
  refine ⟨t, ht, ?_⟩
  rcases hcls with rfl | rfl <;> rw [hflags] <;> rfl

/-- Settles O60: the functions as arithmetic and bit by bit; then INC and DEC through `inPlace`, ADD and SUB through
`accumulate`. -/
theorem operationFunctionsWrapWithoutError : Obligations.OperationFunctionsWrapWithoutError := by
  refine ⟨fun x y => ?_, fun r s => ?_⟩
  · exact ⟨add8_result x y, decide_eq_true_iff, sub8_result x y, decide_eq_true_iff,
      fun _ => BitVec.getLsbD_and, rfl, fun _ => BitVec.getLsbD_or, rfl, fun _ => BitVec.getLsbD_xor, rfl⟩
  · rw [exec_inc, exec_dec, exec_add_reg, exec_sub_reg]
    exact ⟨inPlace_eq_aluApply _ _ r s, inPlace_eq_aluApply _ _ r s,
      accumulate_carry (.inl rfl) _ _ s, accumulate_carry (.inr rfl) _ _ s⟩

/-! ## The carry pre-adjust (R48, U3) -/

/-- Settles O54: with Carry false the adjusted operand is the operand. -/
theorem carryClearAdcIsAddAndSbcIsSub : Obligations.CarryClearAdcIsAddAndSbcIsSub := by
  intro s r n hclear
  simp only [exec_adc_reg, exec_add_reg, exec_adc_imm, exec_add_imm, exec_sbc_reg, exec_sub_reg, exec_sbc_imm,
    exec_sub_imm, carryAdjust_of_clear _ s hclear, and_self]

/-- A test that a wrap `W` turns from true to false, and that nothing else changes, differs from the true test exactly
where `W` holds. -/
theorem decide_eq_xor_wrap {P Q W : Prop} [Decidable P] [Decidable Q] [Decidable W]
    (hwrap : W → ¬ P ∧ Q) (hother : ¬ W → (P ↔ Q)) : decide P = Bool.xor (decide Q) (decide W) := by
  by_cases hW : W
  · obtain ⟨hP, hQ⟩ := hwrap hW
    simp [hW, hP, hQ]
  · simp [hW, hother hW]

/-- Settles O59: the pre-adjusted operand is 0 in the low nibble, or as a byte, exactly where it wraps, and 0 gives
neither a carry nor a borrow, where the three-input sum gives one. -/
theorem carryPreAdjustAgainstThreeInputArithmetic : Obligations.CarryPreAdjustAgainstThreeInputArithmetic := by
  intro r s x y c
  have hx : x < 256 := byte_lt _
  have hy : y < 256 := byte_lt _
  have hc : c < 2 := Bool.toNat_lt _
  have hadj : (carryAdjust (s.read r) s).toNat = (y + c) % 256 := carryAdjust_toNat _ s
  rw [exec_adc_reg, exec_sbc_reg]
  refine ⟨?_, ?_⟩
  · obtain ⟨t, ht, hresult, ⟨hzero, hsub, hhalf, hcarry⟩, -, -⟩ :=
      accumulate_add_effect (carryAdjust (s.read r) s) s
    rw [hadj] at hresult hzero hhalf hcarry
    refine ⟨t, ht, hresult.trans ?_, hzero.trans (decide_eq_decide.mpr ?_), hsub, hhalf.trans ?_, hcarry.trans ?_⟩
    · omega
    · omega
    · exact decide_eq_xor_wrap (by omega) (by omega)
    · exact decide_eq_xor_wrap (by omega) (by omega)
  · obtain ⟨t, ht, hresult, ⟨hzero, hsub, hhalf, hcarry⟩, -, -⟩ :=
      accumulate_sub_effect (carryAdjust (s.read r) s) s
    rw [hadj] at hresult hzero hhalf hcarry
    refine ⟨t, ht, hresult.trans ?_, hzero.trans (decide_eq_decide.mpr ?_), hsub, hhalf.trans ?_, hcarry.trans ?_⟩
    · omega
    · omega
    · exact decide_eq_xor_wrap (by omega) (by omega)
    · exact decide_eq_xor_wrap (by omega) (by omega)

/-! ## Write-back (R49) -/

/-- The outcome `out` from `s` is a next state in which no register but those listed has changed. -/
def WritesOnly (written : List Reg) (s : State) (out : Result) : Prop :=
  ∃ t, out = .next t ∧ SameRegsBut written s t

theorem accumulate_writesOnly (fn : Byte → Byte → Byte × Bool) (cls : Classifier) (y : Byte) (s : State) :
    WritesOnly [.a] s (accumulate fn cls y s) := by
  obtain ⟨t, ht, -, -, hframe, -⟩ := accumulate_next fn cls y s
  exact ⟨t, ht, hframe⟩

theorem inPlace_writesOnly (fn : Byte → Byte → Byte × Bool) (cls : Classifier) (r : Reg) (s : State) :
    WritesOnly [r] s (inPlace fn cls r s) := by
  obtain ⟨t, ht, -, -, hframe, -⟩ := inPlace_next fn cls r s
  exact ⟨t, ht, hframe⟩

theorem shiftReg_writesOnly (op : ShiftOp) (r : Reg) (s : State) : WritesOnly [r] s (shiftReg op r s) := by
  obtain ⟨t, ht, -, -, hframe, -⟩ := shiftReg_next op r s
  exact ⟨t, ht, hframe⟩

theorem sameRegsBut_of_regs_eq {s t : State} (h : t.regs = s.regs) (written : List Reg) :
    SameRegsBut written s t := by
  intro r _
  rw [State.read, h, State.read]

theorem discard_writesOnly (fn : Byte → Byte → Byte × Bool) (cls : Classifier) (y : Byte) (s : State) :
    WritesOnly [] s (discard fn cls y s) := by
  obtain ⟨t, ht, hregs, -, -⟩ := discard_next fn cls y s
  exact ⟨t, ht, sameRegsBut_of_regs_eq hregs _⟩

theorem raiseUnrecognized_writesOnly (d : Diag) (s : State) : WritesOnly [] s (raiseUnrecognized d s) := by
  obtain ⟨t, ht, hregs, -, -, -⟩ := raiseUnrecognized_next d s
  exact ⟨t, ht, sameRegsBut_of_regs_eq hregs _⟩

/-- CP writes no register, every other accumulator operation A (R49; conflict C6). -/
theorem accOp_writesOnly (op : AluOp) (y operand : Byte) (s : State) :
    WritesOnly (Claims.writtenBy (.accImm op) operand) s (accOp op y s) := by
  cases op with
  | cp => exact discard_writesOnly _ _ _ _
  | _ => exact accumulate_writesOnly _ _ _ _

/-- The source of an accumulator operation has no part in what it writes. -/
theorem writtenBy_accReg (op : AluOp) (r : Reg) (operand : Byte) :
    Claims.writtenBy (.accReg op r) operand = Claims.writtenBy (.accImm op) operand := by
  cases op <;> rfl

/-- The escape writes the register its forwarded code selects, and none where the code has no entry (R80, R82). -/
theorem exec_prefixCb_writesOnly (e : Byte) (s : State) :
    WritesOnly (Claims.writtenBy .escape e) s (exec (.prefixCb e) s) := by
  cases hm : extendedMap e with
  | none =>
    rw [exec_prefixCb_none hm, Claims.writtenBy, hm]
    exact raiseUnrecognized_writesOnly _ s
  | some entry =>
    obtain ⟨op, r⟩ := entry
    rw [exec_prefixCb_shift hm, Claims.writtenBy, hm]
    exact shiftReg_writesOnly op r s

theorem exec_primaryInstr_writesOnly (op : PrimaryOp) (operand : Byte) (s : State) :
    WritesOnly (Claims.writtenBy op operand) s (exec (primaryInstr op operand) s) := by
  cases op with
  | accReg op r =>
    rw [primaryInstr, exec_accReg, writtenBy_accReg]
    exact accOp_writesOnly op _ operand s
  | accImm op =>
    rw [primaryInstr, exec_accImm]
    exact accOp_writesOnly op operand operand s
  | inc r =>
    rw [primaryInstr, exec_inc]
    exact inPlace_writesOnly _ _ r s
  | dec r =>
    rw [primaryInstr, exec_dec]
    exact inPlace_writesOnly _ _ r s
  | escape => exact exec_prefixCb_writesOnly operand s

/-- Settles O47: a transaction performs the entry its code has, and each kind of entry writes back as R49 says. -/
theorem onlyTheDestinationRegisterCanChange : Obligations.OnlyTheDestinationRegisterCanChange := by
  refine ⟨fun code operand op s hop => ?_, fun code operand op r s hop => ?_⟩
  · rw [transact_primary_some hop]
    exact exec_primaryInstr_writesOnly op operand s
  · rw [transact_extended_some hop]
    exact shiftReg_writesOnly op r s

end Sys2Proof.Machine
end

section
/-! # Family 41_add_sub_compare: ADD, ADC, SUB, SBC and CP (R51 to R60)

What the shared operation `accOp` does with a right operand is carried over to the seven register forms and the immediate
form once, for any accumulator operation. -/

namespace Sys2Proof.Machine

/-! ## From the shared operation to its eight forms -/

/-- The register sources in the order of the `rsel` field (R29). -/
def sources : List Reg := [.b, .c, .d, .e, .h, .l, .a]

/-- The register form of an accumulator operation: its instruction, its code (R28) and its source. -/
def accRow (op : AluOp) (r : Reg) : Instr × Byte × Reg :=
  (accRegInstr op r, primaryCode (.accReg op r), r)

section
variable {op : AluOp} {Effect : State → Byte → State → Prop}
  (heffect : ∀ y s, ∃ t, accOp op y s = .next t ∧ Effect s y t)
include heffect

theorem accReg_effect (i : Instr) (code : Byte) (r : Reg) (hrow : (i, code, r) ∈ sources.map (accRow op))
    (operand : Byte) (s : State) :
    decode .primary code operand = .ok i ∧ ∃ t, exec i s = .next t ∧ Effect s (s.read r) t := by
  obtain ⟨r, -, hr⟩ := List.mem_map.mp hrow
  cases hr
  rw [exec_accReg]
  exact ⟨decode_primaryCode (.accReg op r) operand, heffect (s.read r) s⟩

theorem accImm_effect (n : Byte) (s : State) :
    decode .primary (primaryCode (.accImm op)) n = .ok (accImmInstr op n) ∧
      ∃ t, exec (accImmInstr op n) s = .next t ∧ Effect s n t := by
  rw [exec_accImm]
  exact ⟨decode_primaryCode (.accImm op) n, heffect n s⟩

end

/-! ## What the five operations do -/

theorem accOp_add_effect (y : Byte) (s : State) :
    ∃ t, accOp .add y s = .next t ∧ Claims.AddEffect s y.toNat t :=
  accumulate_add_effect y s

theorem accOp_sub_effect (y : Byte) (s : State) :
    ∃ t, accOp .sub y s = .next t ∧ Claims.SubEffect s y.toNat t :=
  accumulate_sub_effect y s

/-- ADC is ADD of the pre-adjusted operand (R48, R53). -/
theorem accOp_adc_effect (y : Byte) (s : State) :
    ∃ t, accOp .adc y s = .next t ∧ Claims.AddEffect s ((y.toNat + s.flags.carry.toNat) % 256) t := by
  rw [← carryAdjust_toNat]
  exact accumulate_add_effect (carryAdjust y s) s

/-- SBC is SUB of the pre-adjusted operand (R48, R57). -/
theorem accOp_sbc_effect (y : Byte) (s : State) :
    ∃ t, accOp .sbc y s = .next t ∧ Claims.SubEffect s ((y.toNat + s.flags.carry.toNat) % 256) t := by
  rw [← carryAdjust_toNat]
  exact accumulate_sub_effect (carryAdjust y s) s

/-- CP sets the flags of the difference and leaves the difference itself (R59; conflict C6). -/
theorem accOp_cp_effect (y : Byte) (s : State) :
    ∃ t, accOp .cp y s = .next t ∧ Claims.CompareEffect s y.toNat t := by
  obtain ⟨t, ht, hregs, hflags, hquiet⟩ := discard_next sub8 .compare y s
  refine ⟨t, ht, ?_, sameRegsBut_of_regs_eq hregs _, hquiet⟩
  rw [flagApply_compare, flagApply_subtract, sub8_beq_zero, halfCarry_sub, sub8_overflow] at hflags
  rw [FlagsAre, hflags]
  exact ⟨rfl, rfl, rfl, rfl⟩

/-! ## The register forms and the immediate forms -/

/-- Settles O3: the seven rows are those of `accRow .add`. -/
theorem addRegisterResultAndFrame : Obligations.AddRegisterResultAndFrame :=
  accReg_effect accOp_add_effect

/-- Settles O4: 0xC6 is the code of the immediate form. -/
theorem addImmediateResultAndFrame : Obligations.AddImmediateResultAndFrame :=
  accImm_effect accOp_add_effect

/-- Settles O5: the seven rows are those of `accRow .adc`. -/
theorem addWithCarryRegisterResultAndFrame : Obligations.AddWithCarryRegisterResultAndFrame :=
  accReg_effect accOp_adc_effect

/-- Settles O6: 0xCE is the code of the immediate form. -/
theorem addWithCarryImmediateResultAndFrame : Obligations.AddWithCarryImmediateResultAndFrame :=
  accImm_effect accOp_adc_effect

/-- Settles O7: the seven rows are those of `accRow .sub`. -/
theorem subtractRegisterResultAndFrame : Obligations.SubtractRegisterResultAndFrame :=
  accReg_effect accOp_sub_effect

/-- Settles O8: 0xD6 is the code of the immediate form. -/
theorem subtractImmediateResultAndFrame : Obligations.SubtractImmediateResultAndFrame :=
  accImm_effect accOp_sub_effect

/-- Settles O9: the seven rows are those of `accRow .sbc`. -/
theorem subtractWithCarryRegisterResultAndFrame : Obligations.SubtractWithCarryRegisterResultAndFrame :=
  accReg_effect accOp_sbc_effect

/-- Settles O10: 0xDE is the code of the immediate form. -/
theorem subtractWithCarryImmediateResultAndFrame : Obligations.SubtractWithCarryImmediateResultAndFrame :=
  accImm_effect accOp_sbc_effect

/-- Settles O17: the seven rows are those of `accRow .cp`. -/
theorem compareRegisterResultAndFrame : Obligations.CompareRegisterResultAndFrame :=
  accReg_effect accOp_cp_effect

/-- Settles O18: 0xFE is the code of the immediate form. -/
theorem compareImmediateResultAndFrame : Obligations.CompareImmediateResultAndFrame :=
  accImm_effect accOp_cp_effect

end Sys2Proof.Machine
end

section
/-! # Family 42_logic: AND, XOR and OR (R62 to R67)

The three operations differ in their bitwise function and in the HalfCarry of their row. -/

namespace Sys2Proof.Machine

/-- An operation on A that acts on each bit apart, under a row that writes Zero from the result and the other three flags
as constants (R43, R44). -/
theorem accumulate_logic_effect {fn : Byte → Byte → Byte × Bool} {cls : Classifier} {f : Bool → Bool → Bool} {half : Bool}
    (hbit : ∀ x y i, (fn x y).1.getLsbD i = f (x.getLsbD i) (y.getLsbD i))
    (hrow : ∀ x y r ov old, flagApply cls x y r ov old = ⟨r == 0#8, false, half, false⟩) (y : Byte) (s : State) :
    ∃ t, accumulate fn cls y s = .next t ∧ Claims.LogicEffect f half s y t := by
  obtain ⟨t, ht, hregs, hflags, hframe, hquiet⟩ := accumulate_next fn cls y s
  have hresult : t.read .a = (fn (s.read .a) y).1 := State.read_of_write hregs
  refine ⟨t, ht, fun i _ => ?_, ?_, hframe, hquiet⟩
  · rw [hresult, hbit]
  · rw [hrow, beq_zero_iff, ← hresult] at hflags
    rw [FlagsAre, hflags]
    exact ⟨rfl, rfl, rfl, rfl⟩

theorem accOp_and_effect (y : Byte) (s : State) :
    ∃ t, accOp .and y s = .next t ∧ Claims.LogicEffect (· && ·) true s y t :=
  accumulate_logic_effect (fun _ _ _ => BitVec.getLsbD_and) flagApply_and y s

theorem accOp_xor_effect (y : Byte) (s : State) :
    ∃ t, accOp .xor y s = .next t ∧ Claims.LogicEffect Bool.xor false s y t :=
  accumulate_logic_effect (fun _ _ _ => BitVec.getLsbD_xor) flagApply_xor y s

theorem accOp_or_effect (y : Byte) (s : State) :
    ∃ t, accOp .or y s = .next t ∧ Claims.LogicEffect (· || ·) false s y t :=
  accumulate_logic_effect (fun _ _ _ => BitVec.getLsbD_or) flagApply_or y s

/-! ## The register forms and the immediate forms -/

/-- Settles O11: the seven rows are those of `accRow .and`. -/
theorem andRegisterResultAndFrame : Obligations.AndRegisterResultAndFrame :=
  accReg_effect accOp_and_effect

/-- Settles O12: 0xE6 is the code of the immediate form. -/
theorem andImmediateResultAndFrame : Obligations.AndImmediateResultAndFrame :=
  accImm_effect accOp_and_effect

/-- Settles O13: the seven rows are those of `accRow .xor`. -/
theorem xorRegisterResultAndFrame : Obligations.XorRegisterResultAndFrame :=
  accReg_effect accOp_xor_effect

/-- Settles O14: 0xEE is the code of the immediate form. -/
theorem xorImmediateResultAndFrame : Obligations.XorImmediateResultAndFrame :=
  accImm_effect accOp_xor_effect

/-- Settles O15: the seven rows are those of `accRow .or`. -/
theorem orRegisterResultAndFrame : Obligations.OrRegisterResultAndFrame :=
  accReg_effect accOp_or_effect

/-- Settles O16: 0xF6 is the code of the immediate form. -/
theorem orImmediateResultAndFrame : Obligations.OrImmediateResultAndFrame :=
  accImm_effect accOp_or_effect

end Sys2Proof.Machine
end

section
/-! # Family 43_inc_dec: INC and DEC (R68, R69)

Both are `inPlace` on the selected register; they differ in the operation function and in their row of the flag table. -/

namespace Sys2Proof.Machine

/-! ## What the two operations do -/

/-- Adding 1 wraps to zero only from 0xFF. -/
theorem add8_one_beq_zero (x : Byte) : ((add8 x 1#8).1 == 0#8) = decide (x.toNat = 255) := by
  have hx := byte_lt x
  have hresult : (add8 x 1#8).1.toNat = (x.toNat + 1) % 256 := add8_result x 1#8
  rw [beq_zero_iff, decide_eq_decide]
  omega

theorem exec_inc_effect (r : Reg) (s : State) :
    ∃ t, exec (incInstr r) s = .next t ∧ Claims.IncEffect r s t := by
  obtain ⟨t, ht, hregs, hflags, hframe, hquiet⟩ := inPlace_next add8 .increment r s
  refine ⟨t, (exec_inc r s).trans ht, ?_, ?_, hframe, hquiet⟩
  · rw [State.read_of_write hregs, add8_result]
    rfl
  · rw [flagApply_increment, add8_one_beq_zero, halfCarry_inc] at hflags
    rw [FlagsAre, hflags]
    exact ⟨rfl, rfl, rfl, rfl⟩

theorem exec_dec_effect (r : Reg) (s : State) :
    ∃ t, exec (decInstr r) s = .next t ∧ Claims.DecEffect r s t := by
  obtain ⟨t, ht, hregs, hflags, hframe, hquiet⟩ := inPlace_next sub8 .decrement r s
  refine ⟨t, (exec_dec r s).trans ht, ?_, ?_, hframe, hquiet⟩
  · rw [State.read_of_write hregs, sub8_result]
    rfl
  · rw [flagApply_decrement, sub8_beq_zero, halfCarry_dec] at hflags
    rw [FlagsAre, hflags]
    exact ⟨rfl, rfl, rfl, rfl⟩

/-! ## The seven registers of each -/

/-- The row of a register in a format whose instruction has no operand byte: its instruction, its code (R28) and the
register. -/
def regRow (entry : Reg → PrimaryOp) (instr : Reg → Instr) (r : Reg) : Instr × Byte × Reg :=
  (instr r, primaryCode (entry r), r)

theorem regRow_effect {entry : Reg → PrimaryOp} {instr : Reg → Instr} {Effect : Reg → State → State → Prop}
    (hinstr : ∀ r o, primaryInstr (entry r) o = instr r)
    (heffect : ∀ r s, ∃ t, exec (instr r) s = .next t ∧ Effect r s t)
    (i : Instr) (code : Byte) (r : Reg) (hrow : (i, code, r) ∈ sources.map (regRow entry instr))
    (operand : Byte) (s : State) :
    decode .primary code operand = .ok i ∧ ∃ t, exec i s = .next t ∧ Effect r s t := by
  obtain ⟨r, -, hr⟩ := List.mem_map.mp hrow
  cases hr
  exact ⟨hinstr r operand ▸ decode_primaryCode (entry r) operand, heffect r s⟩

/-- Settles O19: the seven rows are those of `regRow .inc incInstr`. -/
theorem incrementResultAndFrame : Obligations.IncrementResultAndFrame :=
  regRow_effect (entry := .inc) (fun _ _ => rfl) exec_inc_effect

/-- Settles O20: the seven rows are those of `regRow .dec decInstr`. -/
theorem decrementResultAndFrame : Obligations.DecrementResultAndFrame :=
  regRow_effect (entry := .dec) (fun _ _ => rfl) exec_dec_effect

/-! ## Each undoes the other (laws W7 and W8) -/

/-- A register file that reads as `s` does outside `r`, and at `r` the same number, is that of `s`. -/
theorem regs_eq_of_sameRegsBut {s t u : State} {r : Reg} (hst : SameRegsBut [r] s t) (htu : SameRegsBut [r] t u)
    (hr : (u.read r).toNat = (s.read r).toNat) : u.regs = s.regs := by
  refine RegFile.eq_of_read _ _ fun q => ?_
  by_cases hq : q = r
  · subst hq
    exact BitVec.eq_of_toNat_eq hr
  · have hmem : q ∉ [r] := by simpa using hq
    exact (htu q hmem).trans (hst q hmem)

/-- Settles O56: the second result is the first value again modulo 256, and both rows hand Carry on. -/
theorem incAndDecUndoEachOther : Obligations.IncAndDecUndoEachOther := by
  intro r s
  have hv := byte_lt (s.read r)
  refine ⟨?_, ?_⟩
  · obtain ⟨t, ht, hinc, ⟨-, -, -, hcarry⟩, hframe, -⟩ := exec_inc_effect r s
    obtain ⟨u, hu, hdec, ⟨-, -, -, hcarry'⟩, hframe', -⟩ := exec_dec_effect r t
    exact ⟨t, u, ht, hu, regs_eq_of_sameRegsBut hframe hframe' (by omega), hcarry'.trans hcarry⟩
  · obtain ⟨t, ht, hdec, ⟨-, -, -, hcarry⟩, hframe, -⟩ := exec_dec_effect r s
    obtain ⟨u, hu, hinc, ⟨-, -, -, hcarry'⟩, hframe', -⟩ := exec_inc_effect r t
    exact ⟨t, u, ht, hu, regs_eq_of_sameRegsBut hframe hframe' (by omega), hcarry'.trans hcarry⟩

end Sys2Proof.Machine
end

section
/-! # Family 44_shift_rotate: the seven rotates and shifts (R70 to R77)

Each is one use of the one-bit primitive. The primitive is described once, bit by bit and as arithmetic; an operation
adds only its direction and its fill bit. -/

namespace Sys2Proof.Machine

/-! ## The primitive, bit by bit (R70) -/

theorem bit7_eq_true_iff (v : Byte) : v.getLsbD 7 = true ↔ v.toNat / 128 = 1 := by
  rw [← bit7_toNat, Bool.toNat_eq_one]

theorem bit0_eq_true_iff (v : Byte) : v.getLsbD 0 = true ↔ v.toNat % 2 = 1 := by
  rw [← bit0_toNat, Bool.toNat_eq_one]

/-- A byte whose upper seven bits, as a number, are the lower seven bits of another. -/
theorem getLsbD_succ_of_half {x y : Byte} (h : y.toNat / 2 = x.toNat % 2 ^ 7) {i : Nat} (hi : i < 7) :
    y.getLsbD (i + 1) = x.getLsbD i := by
  calc y.toNat.testBit (i + 1)
      = (y.toNat / 2).testBit i := Nat.testBit_add_one _ _
    _ = (x.toNat % 2 ^ 7).testBit i := by rw [h]
    _ = x.toNat.testBit i := by simp only [Nat.testBit_mod_two_pow, hi, decide_true, Bool.true_and]

theorem shift_left_getLsbD_succ (v : Byte) (f : Bool) {i : Nat} (hi : i < 7) :
    (shift .left v f).1.getLsbD (i + 1) = v.getLsbD i := by
  have hf := Bool.toNat_lt f
  exact getLsbD_succ_of_half (by rw [shift_left_result]; omega) hi

theorem shift_left_getLsbD_zero (v : Byte) (f : Bool) : (shift .left v f).1.getLsbD 0 = f := by
  have hf := Bool.toNat_lt f
  rw [Bool.eq_iff_iff, bit0_eq_true_iff, shift_left_result, ← Bool.toNat_eq_one]
  omega

theorem shift_right_getLsbD (v : Byte) (f : Bool) {i : Nat} (hi : i < 7) :
    (shift .right v f).1.getLsbD i = v.getLsbD (i + 1) := by
  have hv := byte_lt v
  exact (getLsbD_succ_of_half (by rw [shift_right_result]; omega) hi).symm

theorem shift_right_getLsbD_seven (v : Byte) (f : Bool) : (shift .right v f).1.getLsbD 7 = f := by
  have hv := byte_lt v
  rw [Bool.eq_iff_iff, bit7_eq_true_iff, shift_right_result, ← Bool.toNat_eq_one]
  omega

theorem shift_movedOneBit (dir : Direction) (v : Byte) (f : Bool) :
    Claims.MovedOneBit dir v (shift dir v f).1 f (shift dir v f).2 :=
  match dir with
  | .left => And.intro (fun _ => shift_left_getLsbD_succ v f) (And.intro (shift_left_getLsbD_zero v f) rfl)
  | .right => And.intro (fun _ => shift_right_getLsbD v f) (And.intro (shift_right_getLsbD_seven v f) rfl)

/-! ## One operation: the primitive with its direction and its fill bit -/

/-- The new value of the register and the bit shifted out, from the value and the Carry flag before. -/
def shifted (op : ShiftOp) (v : Byte) (carry : Bool) : Byte × Bool :=
  shift (shiftDirection op) v (fillBit op v carry)

/-- Everything a rotate or shift does. -/
theorem exec_shift_next (op : ShiftOp) (r : Reg) (s : State) :
    ∃ t, exec (shiftInstr op r) s = .next t ∧ t.read r = (shifted op (s.read r) s.flags.carry).1 ∧
      t.flags = ⟨decide ((t.read r).toNat = 0), false, false, (shifted op (s.read r) s.flags.carry).2⟩ ∧
      SameRegsBut [r] s t ∧ RaisedNothing s t := by
  obtain ⟨t, ht, hregs, hflags, hframe, hquiet⟩ := shiftReg_next op r s
  have hread : t.read r = (shifted op (s.read r) s.flags.carry).1 := State.read_of_write hregs
  refine ⟨t, (exec_shift r s op).trans ht, hread, ?_, hframe, hquiet⟩
  rw [hflags, beq_zero_iff, hread, shifted]

/-- The model's direction and fill bit are the columns of R70's table. -/
theorem shiftTable_eq (op : ShiftOp) : Claims.shiftTable op = (shiftDirection op, fillBit op) := by
  cases op <;> rfl

/-- Settles O2: the primitive moves the value one bit, with the direction and the fill bit of the table. -/
theorem shiftsReduceToThePrimitive : Obligations.ShiftsReduceToThePrimitive := by
  intro op r s
  obtain ⟨t, ht, hread, hflags, hframe, hquiet⟩ := exec_shift_next op r s
  refine ⟨t, ht, ?_, ?_, ?_, ?_, hframe, hquiet⟩
  · rw [shiftTable_eq, hread, hflags]
    exact shift_movedOneBit _ _ _
  all_goals rw [hflags]

/-! ## Result and flags as arithmetic (R71 to R77)

One lemma a direction: an operation gives its fill bit as a number, and the values whose result is zero. -/

section
variable {op : ShiftOp} {r : Reg} {s : State} {fill : Nat} {zero : Prop}
  (hfill : (fillBit op (s.read r) s.flags.carry).toNat = fill)
include hfill

theorem exec_shift_left_effect (hdir : shiftDirection op = .left)
    (hzero : 2 * (s.read r).toNat % 256 + fill = 0 ↔ zero) :
    ∃ t, exec (shiftInstr op r) s = .next t ∧
      Claims.ShiftEffect r (2 * (s.read r).toNat % 256 + fill) zero ((s.read r).toNat / 128 = 1) s t := by
  obtain ⟨t, ht, hread, hflags, hframe, hquiet⟩ := exec_shift_next op r s
  have hresult : (t.read r).toNat = 2 * (s.read r).toNat % 256 + fill := by
    rw [hread, shifted, hdir, shift_left_result, hfill]
  rw [shifted, hdir, shift_left_out, hresult] at hflags
  refine ⟨t, ht, hresult, ?_, ?_, ?_, ?_, hframe, hquiet⟩ <;> rw [hflags]
  · exact decide_eq_true_iff.trans hzero
  · exact bit7_eq_true_iff _

theorem exec_shift_right_effect (hdir : shiftDirection op = .right)
    (hzero : (s.read r).toNat / 2 + 128 * fill = 0 ↔ zero) :
    ∃ t, exec (shiftInstr op r) s = .next t ∧
      Claims.ShiftEffect r ((s.read r).toNat / 2 + 128 * fill) zero ((s.read r).toNat % 2 = 1) s t := by
  obtain ⟨t, ht, hread, hflags, hframe, hquiet⟩ := exec_shift_next op r s
  have hresult : (t.read r).toNat = (s.read r).toNat / 2 + 128 * fill := by
    rw [hread, shifted, hdir, shift_right_result, hfill]
  rw [shifted, hdir, shift_right_out, hresult] at hflags
  refine ⟨t, ht, hresult, ?_, ?_, ?_, ?_, hframe, hquiet⟩ <;> rw [hflags]
  · exact decide_eq_true_iff.trans hzero
  · exact bit0_eq_true_iff _

end

/-! ## The seven registers of each -/

/-- The row of a register in format XS: its instruction, its code (R28) and the register. -/
def shiftRow (op : ShiftOp) (r : Reg) : Instr × Byte × Reg :=
  (shiftInstr op r, shiftCode op r, r)

theorem shiftRow_effect {op : ShiftOp} {Effect : Reg → State → State → Prop}
    (heffect : ∀ r s, ∃ t, exec (shiftInstr op r) s = .next t ∧ Effect r s t)
    (i : Instr) (code : Byte) (r : Reg) (hrow : (i, code, r) ∈ sources.map (shiftRow op))
    (operand : Byte) (s : State) :
    decode .extended code operand = .ok i ∧ ∃ t, exec i s = .next t ∧ Effect r s t := by
  obtain ⟨r, -, hr⟩ := List.mem_map.mp hrow
  cases hr
  exact ⟨decode_shiftCode op r operand, heffect r s⟩

/-- Doubling drops bit 7, and RLC puts it back as bit 0. -/
theorem rotateLeft_eq_zero_iff (n : Nat) : 2 * n % 256 + n / 128 = 0 ↔ n = 0 := by
  have hdouble : 2 * n % 256 = 2 * (n % 128) := Nat.mul_mod_mul_left 2 n 128
  omega

/-- Settles O21: the fill bit is bit 7, so the result is zero only from zero. -/
theorem rotateLeftCircularResultAndFrame : Obligations.RotateLeftCircularResultAndFrame :=
  shiftRow_effect (op := .rlc) fun r s => exec_shift_left_effect (bit7_toNat (s.read r)) rfl (rotateLeft_eq_zero_iff _)

/-- Settles O22: the fill bit is bit 0, so the result is zero only from zero. -/
theorem rotateRightCircularResultAndFrame : Obligations.RotateRightCircularResultAndFrame :=
  shiftRow_effect (op := .rrc) fun r s => exec_shift_right_effect (bit0_toNat (s.read r)) rfl (by omega)

/-- Settles O23: the fill bit is the old Carry. -/
theorem rotateLeftThroughCarryResultAndFrame : Obligations.RotateLeftThroughCarryResultAndFrame :=
  shiftRow_effect (op := .rl) fun _ _ => exec_shift_left_effect rfl rfl Iff.rfl

/-- Settles O24: the fill bit is the old Carry. -/
theorem rotateRightThroughCarryResultAndFrame : Obligations.RotateRightThroughCarryResultAndFrame :=
  shiftRow_effect (op := .rr) fun _ _ => exec_shift_right_effect rfl rfl Iff.rfl

/-- Settles O25: the fill bit is 1, so no result is zero. -/
theorem shiftLeftArithmeticResultAndFrame : Obligations.ShiftLeftArithmeticResultAndFrame :=
  shiftRow_effect (op := .sla) fun _ _ => exec_shift_left_effect (fill := 1) rfl rfl (by simp)

/-- Settles O26: the fill bit is bit 7, which a value of 0 or 1 has clear. -/
theorem shiftRightArithmeticResultAndFrame : Obligations.ShiftRightArithmeticResultAndFrame :=
  shiftRow_effect (op := .sra) fun r s => exec_shift_right_effect (bit7_toNat (s.read r)) rfl (by omega)

/-- Settles O27: the fill bit is 0. -/
theorem shiftRightLogicalResultAndFrame : Obligations.ShiftRightLogicalResultAndFrame :=
  shiftRow_effect (op := .srl) fun _ _ => exec_shift_right_effect (fill := 0) rfl rfl (by omega)

/-! ## Rotations that undo each other (laws W10 and W11) -/

/-- Moving the bit shifted out back in gives the value and the fill bit again. -/
theorem shift_right_shift_left (v : Byte) (f : Bool) :
    shift .right (shift .left v f).1 (shift .left v f).2 = (v, f) := by
  have hf := Bool.toNat_lt f
  have hback : (shift .right (shift .left v f).1 (shift .left v f).2).1.toNat = v.toNat := by
    rw [shift_right_result, shift_left_result, shift_left_out, bit7_toNat]
    omega
  exact Prod.ext (BitVec.eq_of_toNat_eq hback) (shift_left_getLsbD_zero v f)

theorem shift_left_shift_right (v : Byte) (f : Bool) :
    shift .left (shift .right v f).1 (shift .right v f).2 = (v, f) := by
  have hv := byte_lt v
  have hback : (shift .left (shift .right v f).1 (shift .right v f).2).1.toNat = v.toNat := by
    rw [shift_left_result, shift_right_result, shift_right_out, bit0_toNat]
    omega
  exact Prod.ext (BitVec.eq_of_toNat_eq hback) (shift_right_getLsbD_seven v f)

/-- If `op'` takes each result of `op` and the bit shifted out back to the value and the fill bit, it does so on the
state: Carry holds the one bit and then the other. -/
theorem exec_shift_undo {op op' : ShiftOp}
    (hundo : ∀ v c, shifted op' (shifted op v c).1 (shifted op v c).2 = (v, fillBit op v c)) (r : Reg) (s : State) :
    ∃ t u, exec (shiftInstr op r) s = .next t ∧ exec (shiftInstr op' r) t = .next u ∧ u.regs = s.regs ∧
      u.flags.carry = fillBit op (s.read r) s.flags.carry := by
  obtain ⟨t, ht, hread, hflags, hframe, -⟩ := exec_shift_next op r s
  obtain ⟨u, hu, hread', hflags', hframe', -⟩ := exec_shift_next op' r t
  have hback : shifted op' (t.read r) t.flags.carry = (s.read r, fillBit op (s.read r) s.flags.carry) := by
    rw [hread, hflags, hundo]
  rw [hback] at hread' hflags'
  exact ⟨t, u, ht, hu, regs_eq_of_sameRegsBut hframe hframe' (by rw [hread']), by rw [hflags']⟩

/-- After RLC the bit shifted out is also bit 0, the fill bit of RRC. -/
theorem shifted_rrc_shifted_rlc (v : Byte) (c : Bool) :
    shifted .rrc (shifted .rlc v c).1 (shifted .rlc v c).2 = (v, v.getLsbD 7) := by
  have hfill : (shifted .rlc v c).1.getLsbD 0 = (shifted .rlc v c).2 := shift_left_getLsbD_zero _ _
  rw [shifted, fillBit, hfill]
  exact shift_right_shift_left _ _

/-- After RRC the bit shifted out is also bit 7, the fill bit of RLC. -/
theorem shifted_rlc_shifted_rrc (v : Byte) (c : Bool) :
    shifted .rlc (shifted .rrc v c).1 (shifted .rrc v c).2 = (v, v.getLsbD 0) := by
  have hfill : (shifted .rrc v c).1.getLsbD 7 = (shifted .rrc v c).2 := shift_right_getLsbD_seven _ _
  rw [shifted, fillBit, hfill]
  exact shift_left_shift_right _ _

/-- Settles O58: for RL and RR the fill bit is Carry, for RLC and RRC a bit of the value. -/
theorem rotationsUndoEachOther : Obligations.RotationsUndoEachOther := by
  intro r s
  obtain ⟨t, u, ht, hu, hregs, -⟩ := exec_shift_undo shifted_rrc_shifted_rlc r s
  obtain ⟨t', u', ht', hu', hregs', -⟩ := exec_shift_undo shifted_rlc_shifted_rrc r s
  exact ⟨exec_shift_undo (op := .rl) (op' := .rr) shift_right_shift_left r s,
    exec_shift_undo (op := .rr) (op' := .rl) shift_left_shift_right r s,
    ⟨t, u, ht, hu, hregs⟩, ⟨t', u', ht', hu', hregs'⟩⟩

/-! ## Eight circular rotations (law W9)

RLC moves every bit up by one position around the byte, RRC by seven, so eight of either move it by a multiple of
eight. -/

/-- `y` is `x` with each bit moved up by `k` positions around the byte. -/
def RotatedBy (k : Nat) (x y : Byte) : Prop :=
  ∀ i, i < 8 → y.getLsbD ((i + k) % 8) = x.getLsbD i

theorem RotatedBy.trans {k m : Nat} {x y z : Byte} (hxy : RotatedBy k x y) (hyz : RotatedBy m y z) :
    RotatedBy (k + m) x z := by
  intro i hi
  have hz := hyz ((i + k) % 8) (Nat.mod_lt _ (by decide))
  rw [Nat.mod_add_mod, Nat.add_assoc] at hz
  exact hz.trans (hxy i hi)

theorem RotatedBy.eq_of_mul_eight {k : Nat} {x y : Byte} (h : RotatedBy (8 * k) x y) : y = x := by
  refine BitVec.eq_of_getLsbD_eq fun i hi => ?_
  have hbit := h i hi
  rwa [Nat.add_mul_mod_self_left, Nat.mod_eq_of_lt hi] at hbit

theorem shifted_rlc_rotatedBy (v : Byte) (c : Bool) : RotatedBy 1 v (shifted .rlc v c).1 := by
  intro i hi
  by_cases h : i < 7
  · rw [Nat.mod_eq_of_lt (by omega)]
    exact shift_left_getLsbD_succ v _ h
  · obtain rfl : i = 7 := by omega
    exact shift_left_getLsbD_zero v _

theorem shifted_rrc_rotatedBy (v : Byte) (c : Bool) : RotatedBy 7 v (shifted .rrc v c).1 := by
  intro i hi
  cases i with
  | zero => exact shift_right_getLsbD_seven v _
  | succ j =>
    have hj : j < 7 := by omega
    rw [show (j + 1 + 7) % 8 = j by omega]
    exact shift_right_getLsbD v _ hj

theorem repeated_succ {i : Instr} {s t : State} (h : exec i s = .next t) (n : Nat) :
    Claims.repeated (n + 1) i s = Claims.repeated n i t := by
  rw [Claims.repeated, h]

/-- `t` has register `r` of `s` rotated by `k`, the others as they were, and in Carry bit `b` of the result. -/
structure Rotation (k b : Nat) (r : Reg) (s t : State) : Prop where
  rotated : RotatedBy k (s.read r) (t.read r)
  frame : SameRegsBut [r] s t
  carry : t.flags.carry = (t.read r).getLsbD b

theorem Rotation.trans {k m b : Nat} {r : Reg} {s t u : State} (hst : Rotation k b r s t) (htu : Rotation m b r t u) :
    Rotation (k + m) b r s u where
  rotated := hst.rotated.trans htu.rotated
  frame q hq := (htu.frame q hq).trans (hst.frame q hq)
  carry := htu.carry

section
variable {op : ShiftOp} {k b : Nat} (hrot : ∀ v c, RotatedBy k v (shifted op v c).1)
  (hout : ∀ v c, (shifted op v c).2 = (shifted op v c).1.getLsbD b)
include hrot hout

theorem exec_shift_rotation (r : Reg) (s : State) :
    ∃ t, exec (shiftInstr op r) s = .next t ∧ Rotation k b r s t := by
  obtain ⟨t, ht, hread, hflags, hframe, -⟩ := exec_shift_next op r s
  refine ⟨t, ht, ?_, hframe, ?_⟩
  · rw [hread]
    exact hrot _ _
  · rw [hflags, hread]
    exact hout _ _

theorem repeated_rotation (n : Nat) (r : Reg) (s : State) :
    ∃ t, Claims.repeated (n + 1) (shiftInstr op r) s = some t ∧ Rotation ((n + 1) * k) b r s t := by
  induction n generalizing s with
  | zero =>
    obtain ⟨t, ht, hturn⟩ := exec_shift_rotation hrot hout r s
    exact ⟨t, repeated_succ ht 0, by rwa [Nat.zero_add, Nat.one_mul]⟩
  | succ n ih =>
    obtain ⟨t, ht, hturn⟩ := exec_shift_rotation hrot hout r s
    obtain ⟨u, hu, hturns⟩ := ih t
    refine ⟨u, (repeated_succ ht _).trans hu, ?_⟩
    rw [Nat.succ_mul, Nat.add_comm]
    exact hturn.trans hturns

theorem repeated_eight_restores (r : Reg) (s : State) :
    ∃ t, Claims.repeated 8 (shiftInstr op r) s = some t ∧ t.regs = s.regs ∧
      t.flags.carry = (s.read r).getLsbD b := by
  obtain ⟨t, ht, hrotated, hframe, hcarry⟩ := repeated_rotation hrot hout 7 r s
  have hread : t.read r = s.read r := hrotated.eq_of_mul_eight
  have hself : SameRegsBut [r] s s := fun _ _ => rfl
  exact ⟨t, ht, regs_eq_of_sameRegsBut hself hframe (by rw [hread]), by rw [hcarry, hread]⟩

end

/-- Settles O57: eight turns bring every bit back to its place, and Carry is the bit of the result that was moved in
last: bit 0 under RLC, bit 7 under RRC. -/
theorem eightCircularRotationsRestoreTheRegister : Obligations.EightCircularRotationsRestoreTheRegister :=
  fun r s =>
    ⟨repeated_eight_restores shifted_rlc_rotatedBy (fun v _ => (shift_left_getLsbD_zero v _).symm) r s,
      repeated_eight_restores shifted_rrc_rotatedBy (fun v _ => (shift_right_getLsbD_seven v _).symm) r s⟩

end Sys2Proof.Machine
end

section
/-! # Family 45_dispatch: the two dispatchers, the escape, and what a step answers (R79 to R87) -/

namespace Sys2Proof.Machine

/-! ## The escape (R80) -/

/-- Code 0xCB is the escape, whatever byte comes with it (decision D3). -/
theorem decode_escape (e : Byte) : decode .primary 0xCB e = .ok (.prefixCb e) :=
  decode_primaryCode .escape e

/-- PREFIX_CB is the Extended entry point on its own byte, found there or not; the entry's operand byte has no part. -/
theorem exec_prefixCb_eq_executeExtended (e operand : Byte) (s : State) :
    exec (.prefixCb e) s = executeExtended e operand s := by
  cases hm : extendedMap e with
  | none => rw [exec_prefixCb_none hm, executeExtended, decode_extended_none hm, perform]
  | some entry =>
    obtain ⟨op, r⟩ := entry
    rw [exec_prefixCb_shift hm, executeExtended, decode_extended_some hm, perform, exec_shift]

theorem exec_prefixCb_of_decode_ok {e : Byte} {i : Instr} (h : decode .extended e e = .ok i) (s : State) :
    exec (.prefixCb e) s = exec i s := by
  rw [exec_prefixCb_eq_executeExtended e e, executeExtended, h, perform]

/-- Settles O28: the escape runs the instruction found, which is a shift. -/
theorem prefixCbRunsTheForwardedOperation : Obligations.PrefixCbRunsTheForwardedOperation := by
  refine fun e => ⟨decode_escape e, fun i s hi => ?_⟩
  obtain ⟨op, r, -, rfl⟩ := decode_extended_ok hi
  obtain ⟨t, ht, -, -, -, hquiet⟩ := exec_shift_next op r s
  exact ⟨t, (exec_prefixCb_of_decode_ok hi s).trans ht, ht, hquiet⟩

/-- Settles O29: the Extended entry point rejects the forwarded byte. -/
theorem prefixCbReportsAnUnrecognizedForwardedCode : Obligations.PrefixCbReportsAnUnrecognizedForwardedCode := by
  refine ⟨by decide, fun e s h => ?_⟩
  rw [exec_prefixCb_eq_executeExtended e e, executeExtended, decode_error_of_not_recognized h, perform,
    raiseUnrecognized]

/-- Settles O30: the Primary lookup of 0xCB finds PREFIX_CB, which is the Extended entry point. -/
theorem escapeAndDirectEntryAgree : Obligations.EscapeAndDirectEntryAgree := by
  intro e operand s
  rw [execute, decode_escape, perform, exec_prefixCb_eq_executeExtended e operand]

/-! ## A transaction and the step that starts it (R79, R81, R82) -/

theorem transact_of_decode_ok {t : Transaction} {i : Instr} (h : decode t.entry t.opcode t.operand = .ok i)
    (s : State) : transact t s = exec i s := by
  rw [transact_eq_perform, h, perform]

theorem transact_of_decode_error {t : Transaction} {d : Diag} (h : decode t.entry t.opcode t.operand = .error d)
    (s : State) : transact t s = .next { s with diag := some d } := by
  rw [transact_eq_perform, h, perform, raiseUnrecognized]

/-- Settles O32: the decoder rejects a code that fails the bit test, with the pair. -/
theorem unrecognizedDiagnosticNamesTableAndCode : Obligations.UnrecognizedDiagnosticNamesTableAndCode :=
  fun _ _ operand s h => transact_of_decode_error (decode_error_of_not_recognized h operand) s

/-- Port values that assert `start` without `reset` perform their transaction (R16). -/
theorem present_start {p : Ports} (hreset : p.reset = false) (hstart : p.start = true) (s : State) :
    present p s = transact p.transaction s := by
  simp [present, hreset, hstart]

/-- Port values that assert `reset` reset the block (R93). -/
theorem present_reset {p : Ports} (hreset : p.reset = true) (s : State) : present p s = resetBlock s := by
  simp [present, hreset]

/-- Settles O42: the step performs the transaction with the later inputs waiting. -/
theorem stepRunsTheDecodedInstruction : Obligations.StepRunsTheDecodedInstruction := by
  intro s p rest hin hreset hstart
  rw [step_of_inputs_cons hin, present_start hreset hstart]
  exact ⟨fun _ hi => transact_of_decode_ok hi _, fun _ hd => transact_of_decode_error hd _⟩

/-- The step after placing a transaction performs it on the state as it was. -/
theorem step_withTransaction (s : State) (t : Transaction) : step (s.withTransaction t) = transact t s :=
  (step_of_inputs_cons rfl).trans (present_startPorts t s)

/-- A table word gives what the decoder finds for its transaction (log 10). -/
theorem decode_tableTransaction {nbits w : Nat} {i : Instr} (h : decodeTableWord nbits w = some i) :
    decode (tableTransaction nbits w).entry (tableTransaction nbits w).opcode (tableTransaction nbits w).operand =
      .ok i := by
  simp only [decodeTableWord] at h
  split at h
  · next hi =>
    cases h
    exact hi
  · cases h

/-- Settles O43: the word is placed as a started transaction, which performs what its lookup finds. -/
theorem tableWordRunsAsTheNextStep : Obligations.TableWordRunsAsTheNextStep := by
  intro s nbits w i h
  rw [State.withFetchWord, step_withTransaction, transact_of_decode_ok (decode_tableTransaction h)]

/-! ## Every step completes (R84, R86) -/

theorem present_completes (p : Ports) (s : State) : ∃ t, present p s = .next t := by
  cases hreset : p.reset with
  | true => exact ⟨_, present_reset hreset s⟩
  | false =>
    cases hstart : p.start with
    | false => exact ⟨_, present_idle hreset hstart s⟩
    | true =>
      obtain ⟨t, ht, -, -⟩ := transact_passesInputs p.transaction s s.inputs
      exact ⟨t, (present_start hreset hstart s).trans ht⟩

/-- Settles O44: whatever port values the step takes, presenting them completes. -/
theorem everyStepAnswersANextState : Obligations.EveryStepAnswersANextState :=
  fun s => present_completes (takeInput s).1 (takeInput s).2

/-! ## Clean inputs raise nothing (R87) -/

/-- The outcome `out` from `s` is a next state with no diagnostic and the same inputs waiting. -/
def CompletesQuietly (s : State) (out : Result) : Prop :=
  ∃ t, out = .next t ∧ RaisedNothing s t

theorem accOp_completesQuietly (op : AluOp) (y : Byte) (s : State) : CompletesQuietly s (accOp op y s) := by
  cases op <;> exact ⟨_, rfl, rfl, rfl⟩

theorem inPlace_completesQuietly (fn : Byte → Byte → Byte × Bool) (cls : Classifier) (r : Reg) (s : State) :
    CompletesQuietly s (inPlace fn cls r s) :=
  ⟨_, rfl, rfl, rfl⟩

theorem exec_shift_completesQuietly (op : ShiftOp) (r : Reg) (s : State) :
    CompletesQuietly s (exec (shiftInstr op r) s) := by
  obtain ⟨t, ht, -, -, -, hquiet⟩ := exec_shift_next op r s
  exact ⟨t, ht, hquiet⟩

/-- Every instruction completes and raises nothing, but for the escape with an unrecognized forwarded code. -/
theorem exec_completesQuietly {i : Instr} (hesc : ∀ e, i = .prefixCb e → ∃ j, decode .extended e e = .ok j)
    (s : State) : CompletesQuietly s (exec i s) := by
  obtain ⟨op, n, rfl⟩ | ⟨op, r, rfl⟩ := instr_forms i
  · cases op with
    | accReg op r => exact exec_accReg op r s ▸ accOp_completesQuietly op (s.read r) s
    | accImm op => exact exec_accImm op n s ▸ accOp_completesQuietly op n s
    | inc r => exact exec_inc r s ▸ inPlace_completesQuietly add8 .increment r s
    | dec r => exact exec_dec r s ▸ inPlace_completesQuietly sub8 .decrement r s
    | escape =>
      obtain ⟨j, hj⟩ := hesc n rfl
      obtain ⟨op, r, -, rfl⟩ := decode_extended_ok hj
      exact exec_prefixCb_of_decode_ok hj s ▸ exec_shift_completesQuietly op r s
  · exact exec_shift_completesQuietly op r s

/-- PREFIX_CB is decoded from Primary 0xCB alone, and carries the operand byte (R80). -/
theorem eq_of_decode_prefixCb {space : CodeSpace} {c o e : Byte} (h : decode space c o = .ok (.prefixCb e)) :
    space = .primary ∧ c = 0xCB ∧ o = e := by
  obtain ⟨hspace, hcode, hoperand⟩ := (decodeExactlyInvertsEncode.2 space c o (.prefixCb e)).mp h
  subst hspace hcode
  exact ⟨rfl, rfl, (hoperand rfl).symm⟩

/-- A clean transaction: both lookups it makes succeed (R80, R87). -/
theorem transaction_clean_iff (t : Transaction) : t.clean = true ↔
    recognized t.entry t.opcode = true ∧
      (t.entry = .primary → t.opcode = 0xCB → recognized .extended t.operand = true) := by
  simp only [Transaction.clean, Bool.and_eq_true, Bool.or_eq_true, Bool.not_eq_true', Bool.and_eq_false_imp,
    beq_iff_eq, beq_eq_false_iff_ne]
  tauto

theorem transact_completesQuietly {t : Transaction} (h : t.clean = true) (s : State) :
    CompletesQuietly s (transact t s) := by
  obtain ⟨hcode, hforward⟩ := (transaction_clean_iff t).mp h
  obtain ⟨i, hi⟩ := decode_ok_of_recognized hcode t.operand
  rw [transact_of_decode_ok hi]
  refine exec_completesQuietly (fun e he => ?_) s
  obtain ⟨hentry, hopcode, rfl⟩ := eq_of_decode_prefixCb (he ▸ hi)
  exact decode_ok_of_recognized (hforward hentry hopcode) t.operand

theorem idle_completesQuietly (s : State) : CompletesQuietly s (idle s) := ⟨_, rfl, rfl, rfl⟩

theorem resetBlock_completesQuietly (s : State) : CompletesQuietly s (resetBlock s) := ⟨_, rfl, rfl, rfl⟩

theorem present_completesQuietly {p : Ports} (h : p.clean = true) (s : State) : CompletesQuietly s (present p s) := by
  cases hreset : p.reset with
  | true => exact present_reset hreset s ▸ resetBlock_completesQuietly s
  | false =>
    cases hstart : p.start with
    | false => exact present_idle hreset hstart s ▸ idle_completesQuietly s
    | true =>
      have hclean : p.transaction.clean = true := by simpa [Ports.clean, hreset, hstart] using h
      exact present_start hreset hstart s ▸ transact_completesQuietly hclean s

/-- With clean inputs waiting, the step raises nothing and leaves clean inputs waiting. -/
theorem step_keeps_clean {s : State} (h : ∀ p ∈ s.inputs, p.clean = true) :
    ∃ t, step s = .next t ∧ t.diag = none ∧ ∀ p ∈ t.inputs, p.clean = true := by
  cases hin : s.inputs with
  | nil =>
    obtain ⟨t, ht, hdiag, hwait⟩ := idle_completesQuietly s
    exact ⟨t, (step_of_inputs_nil hin).trans ht, hdiag, hwait ▸ h⟩
  | cons p rest =>
    rw [hin, List.forall_mem_cons] at h
    obtain ⟨t, ht, hdiag, hwait⟩ := present_completesQuietly h.1 { s with inputs := rest }
    exact ⟨t, (step_of_inputs_cons hin).trans ht, hdiag, hwait ▸ h.2⟩

/-- Settles O53, by induction on the length: each step leaves clean inputs to the next. -/
theorem cleanInputsRunSafelyForever : Obligations.CleanInputsRunSafelyForever := by
  intro s h n
  induction n generalizing s with
  | zero => trivial
  | succ n ih =>
    obtain ⟨t, ht, hdiag, hclean⟩ := step_keeps_clean h
    exact ⟨t, ht, hdiag, ih t hclean⟩

end Sys2Proof.Machine
end

section
/-! # Family 60_exceptions: the one exceptional event, UnrecognizedOpcode (R82, R85 to R87) -/

namespace Sys2Proof.Machine

/-! ## A failed lookup (R82) -/

/-- A lookup of the transaction fails with `d`: its own, or the one the escape forwards to the Extended map. -/
def LookupFails (u : Transaction) (d : Diag) : Prop :=
  decode u.entry u.opcode u.operand = .error d ∨
    ∃ e, decode u.entry u.opcode u.operand = .ok (.prefixCb e) ∧ decode .extended e e = .error d

theorem exec_prefixCb_of_decode_error {e : Byte} {d : Diag} (h : decode .extended e e = .error d) (s : State) :
    exec (.prefixCb e) s = .next { s with diag := some d } := by
  rw [exec_prefixCb_eq_executeExtended e e, executeExtended, h, perform, raiseUnrecognized]

/-- Whichever of the two lookups fails, the transaction presents its diagnostic and changes nothing else. -/
theorem transact_of_lookupFails {u : Transaction} {d : Diag} (h : LookupFails u d) (s : State) :
    transact u s = .next { s with diag := some d } := by
  obtain herror | ⟨e, hescape, herror⟩ := h
  · exact transact_of_decode_error herror s
  · rw [transact_of_decode_ok hescape, exec_prefixCb_of_decode_error herror]

/-- Settles O31: all that is left of the transaction is the diagnostic, which no later one reads (decision D9). -/
theorem unrecognizedCodeIsAReportedNoOp : Obligations.UnrecognizedCodeIsAReportedNoOp :=
  fun _ s d h => ⟨_, transact_of_lookupFails h s, rfl, rfl, rfl, rfl, fun next => transact_diag next s (some d)⟩

/-- A transaction that is not clean has a failing lookup, of a code that R34 lists as unrecognized. -/
theorem exists_lookupFails_of_not_clean {u : Transaction} (h : u.clean = false) :
    ∃ space code, recognized space code = false ∧ LookupFails u (.unrecognizedOpcode space code) := by
  obtain ⟨entry, code, operand⟩ := u
  cases hcode : recognized entry code with
  | false => exact ⟨entry, code, hcode, .inl (decode_error_of_not_recognized hcode operand)⟩
  | true =>
    have hforward : entry = .primary ∧ code = 0xCB ∧ recognized .extended operand = false := by
      simpa [← Bool.not_eq_true, transaction_clean_iff, hcode] using h
    obtain ⟨rfl, rfl, hoperand⟩ := hforward
    exact ⟨.extended, operand, hoperand,
      .inr ⟨operand, decode_escape operand, decode_error_of_not_recognized hoperand operand⟩⟩

/-! ## The diagnostic names an unrecognized pair (R85) -/

theorem diagnosticNamesUnrecognized_of_diag_none {s : State} (h : s.diag = none) : DiagnosticNamesUnrecognized s := by
  intro space code hdiag
  cases h.symm.trans hdiag

theorem diagnosticNamesUnrecognized_some {space : CodeSpace} {code : Byte} (h : recognized space code = false)
    (s : State) : DiagnosticNamesUnrecognized { s with diag := some (.unrecognizedOpcode space code) } := by
  rintro _ _ ⟨⟩
  exact h

/-- Port values that are not clean perform a transaction that is not. -/
theorem present_of_not_clean {p : Ports} (h : p.clean = false) (s : State) :
    p.transaction.clean = false ∧ present p s = transact p.transaction s := by
  obtain ⟨⟨hreset, hstart⟩, hclean⟩ :
      (p.reset = false ∧ p.start = true) ∧ p.transaction.clean = false := by
    simpa [Ports.clean] using h
  exact ⟨hclean, present_start hreset hstart s⟩

/-- Clean port values leave no diagnostic, and others present that of a failed lookup. The diagnostic before plays no
part. -/
theorem diagnosticNamesUnrecognized_of_present {p : Ports} {s t : State} (h : present p s = .next t) :
    DiagnosticNamesUnrecognized t := by
  cases hp : p.clean with
  | true =>
    obtain ⟨t', ht, hdiag, -⟩ := present_completesQuietly hp s
    cases ht.symm.trans h
    exact diagnosticNamesUnrecognized_of_diag_none hdiag
  | false =>
    obtain ⟨hclean, hpresent⟩ := present_of_not_clean hp s
    obtain ⟨space, code, hcode, hfails⟩ := exists_lookupFails_of_not_clean hclean
    cases (hpresent.trans (transact_of_lookupFails hfails s)).symm.trans h
    exact diagnosticNamesUnrecognized_some hcode s

/-- Settles O46: the step presents some port values, and every such presentation writes the diagnostic anew. -/
theorem stepKeepsTheDiagnosticInvariant : Obligations.StepKeepsTheDiagnosticInvariant :=
  fun _ _ _ h => diagnosticNamesUnrecognized_of_present h

/-! ## What raises nothing (R87) -/

/-- Settles O33: an instruction completes quietly, unless it forwards an unrecognized byte. -/
theorem recognizedOperationsRaiseNothing : Obligations.RecognizedOperationsRaiseNothing := by
  intro i s hesc
  obtain ⟨t, ht, hdiag, -⟩ := exec_completesQuietly hesc s
  exact ⟨t, ht, hdiag⟩

/-- A transaction raises one diagnostic when it is not clean, and none when it is. -/
theorem transact_diag_count (u : Transaction) (s : State) :
    ∃ t, transact u s = .next t ∧ t.diag.toList.length = if u.clean then 0 else 1 := by
  cases hu : u.clean with
  | true =>
    obtain ⟨t, ht, hdiag, -⟩ := transact_completesQuietly hu s
    exact ⟨t, ht, by simp [hdiag]⟩
  | false =>
    obtain ⟨_, _, -, hfails⟩ := exists_lookupFails_of_not_clean hu
    exact ⟨_, transact_of_lookupFails hfails s, rfl⟩

theorem length_transactAll_diags (ts : List Transaction) (s : State) :
    (transactAll ts s).2.length = (ts.filter fun u => !u.clean).length := by
  induction ts generalizing s with
  | nil => rfl
  | cons u ts ih =>
    obtain ⟨t, ht, hcount⟩ := transact_diag_count u s
    rw [transactAll_cons ht, List.length_append, hcount, ih]
    cases hu : u.clean with
    | true => simp [hu]
    | false => simp [hu, Nat.add_comm]

/-- Settles O52: the diagnostics are counted transaction by transaction, and a count of 0 leaves none that is not
clean. -/
theorem listRaisesNoDiagnosticIffEveryTransactionIsClean :
    Obligations.ListRaisesNoDiagnosticIffEveryTransactionIsClean := by
  refine fun ts s => ⟨length_transactAll_diags ts s, ?_⟩
  rw [← List.length_eq_zero_iff, length_transactAll_diags, List.length_eq_zero_iff, List.filter_eq_nil_iff]
  simp

end Sys2Proof.Machine
end

section
/-! # Family 70_reset_and_hazards: the reset port (R89, R93, decision D14) -/

namespace Sys2Proof.Machine

/-- The reset port gives the state of R12 and keeps only the waiting inputs (log 7). -/
theorem resetBlock_eq (s : State) : resetBlock s = .next { State.reset with inputs := s.inputs } := rfl

/-- Settles O40: the step takes the port values that assert reset, and reset comes before start, so the transaction
beside it is never looked up. -/
theorem resetPortOverridesTheTransaction : Obligations.ResetPortOverridesTheTransaction := by
  intro s p rest hin hreset
  rw [step_of_inputs_cons hin, present_reset hreset, resetBlock_eq]

end Sys2Proof.Machine
end
